-- ==== Sys2Proof/Word.lean ====
section
/-! DEFINITION. The word types of the block, its two control units, and the temperature sentinel. -/

namespace Sys2Proof

/-- An unsigned byte: address bytes, CRC values, the actuator register and the port (R24). -/
abbrev Byte := BitVec 8

/-- A 16-bit pattern: a temperature register in 1/16 °C, or a raw reading (R20, R24). -/
abbrev Half := BitVec 16

/-- A 32-bit pattern: a command word, a host word, an int32 register (R24, R101). -/
abbrev Word := BitVec 32

/-- A device address of eight bytes; byte `A[i]` is bits `8i+7 .. 8i` (R21, R34). -/
abbrev DeviceAddress := BitVec 64

/-- The two control units (R3): unit 0 the radiator circuit, unit 1 the boiler circuit. -/
inductive UnitId where
  | radiator
  | boiler
  deriving DecidableEq, Repr

/-- The sentinel INVALID = -32768, bit pattern 0x8000 (R20). -/
def invalidTemp : Half := 0x8000#16

/-- The number of INVALID, for the configured temperatures (R15, R20). -/
def invalidValue : Int := -32768

end Sys2Proof
end

