-- ==== Sys2Proof/Syntax.lean ====
section
/-! DEFINITION. The commands: one constructor per row of spec/opcode_table.json (R145). The fields have
exactly the widths R141 to R143 give an operand, and a unit is one of the two units, so every term of
`Instr` stands for a legal command word. -/

namespace Sys2Proof

/-- The 18 commands of R145, with the operands of R142 and R143. -/
inductive Instr where
  /-- NOP (R180). -/
  | nop
  /-- SRCH_START (R221). -/
  | srchStart
  /-- SRCH_NEXT (R222). -/
  | srchNext
  /-- CRC_CLR (R197). -/
  | crcClr
  /-- CRC_BYTE (R198), `byte = w[23:16]`. -/
  | crcByte (byte : BitVec 8)
  /-- CRC_ADDR (R199). -/
  | crcAddr
  /-- DEC_SENSOR (R192), `raw = w[31:16]`. -/
  | decSensor (raw : BitVec 16)
  /-- DEC_TC (R194), `raw = w[31:16]`. -/
  | decTc (raw : BitVec 16)
  /-- REG_SETTGT (R264), `simm = w[31:16]`. -/
  | regSettgt (u : UnitId) (simm : BitVec 16)
  /-- REG_STEP (R265), `simm = w[31:16]`. -/
  | regStep (u : UnitId) (simm : BitVec 16)
  /-- REG_RESET (R266). -/
  | regReset (u : UnitId)
  /-- CAS_SENSOR (R303), `simm = w[31:16]`. -/
  | casSensor (u : UnitId) (simm : BitVec 16)
  /-- CAS_STEP (R308). -/
  | casStep (u : UnitId)
  /-- CAS_GETOUT (R309). -/
  | casGetout (u : UnitId)
  /-- CAS_GETABS (R310). -/
  | casGetabs (u : UnitId)
  /-- ACT_SET (R362), `bit = w[18:16]`. -/
  | actSet (bit : BitVec 3)
  /-- ACT_CLR (R363), `bit = w[18:16]`. -/
  | actClr (bit : BitVec 3)
  /-- SLICE (R365). -/
  | slice
  deriving DecidableEq, Repr

end Sys2Proof
end

