-- ==== Sys2Proof/Decode.lean ====
section
/-! DEFINITION. The decoder, total on every 32-bit word and rejecting by name (R146, R148); the encoder
(R149); the match and mask table of R145; and the host's view of the decoder. -/

namespace Sys2Proof

/-- Why a word is no command: the classes of R146. All of them raise IllegalCommand (R402). -/
inductive DecodeError where
  /-- One of the 238 opcode values not in the map. -/
  | unknownOpcode
  /-- RSV, `w[15:10]`, is not 0. -/
  | reservedNotZero
  /-- UNIT is 2 or 3 on a unit command. -/
  | unitIllegal
  /-- UNIT is not 0 on a command that takes no unit. -/
  | unitNotZero
  /-- IMM, or the part of it that must be 0, is not 0. -/
  | immediateNotZero
  deriving DecidableEq, Repr

/-- The opcode field `w[7:0]` (R141). -/
def opcField (w : Word) : BitVec 8 := w.extractLsb' 0 8

/-- The unit field `w[9:8]` (R141). -/
def unitField (w : Word) : BitVec 2 := w.extractLsb' 8 2

/-- The reserved field `w[15:10]` (R141). -/
def rsvField (w : Word) : BitVec 6 := w.extractLsb' 10 6

/-- The immediate field `w[31:16]` (R141). -/
def immField (w : Word) : BitVec 16 := w.extractLsb' 16 16

/-- The `byte` immediate `w[23:16]` (R142). -/
def byteField (w : Word) : BitVec 8 := w.extractLsb' 16 8

/-- The `bit` immediate `w[18:16]` (R142). -/
def bitField (w : Word) : BitVec 3 := w.extractLsb' 16 3

/-- A command with no operand: UNIT and IMM must be 0 (R142, R143). -/
def decodePlain (i : Instr) (w : Word) : Except DecodeError Instr :=
  if unitField w ≠ 0#2 then .error .unitNotZero
  else if immField w ≠ 0#16 then .error .immediateNotZero
  else .ok i

/-- A command with the `raw` immediate and no unit (R142, R143). -/
def decodeRaw (i : BitVec 16 → Instr) (w : Word) : Except DecodeError Instr :=
  if unitField w ≠ 0#2 then .error .unitNotZero else .ok (i (immField w))

/-- CRC_BYTE: `w[31:24]` must be 0 (R142). -/
def decodeByte (i : BitVec 8 → Instr) (w : Word) : Except DecodeError Instr :=
  if unitField w ≠ 0#2 then .error .unitNotZero
  else if w.extractLsb' 24 8 ≠ 0#8 then .error .immediateNotZero
  else .ok (i (byteField w))

/-- ACT_SET and ACT_CLR: `w[31:19]` must be 0 (R142). -/
def decodeBit (i : BitVec 3 → Instr) (w : Word) : Except DecodeError Instr :=
  if unitField w ≠ 0#2 then .error .unitNotZero
  else if w.extractLsb' 19 13 ≠ 0#13 then .error .immediateNotZero
  else .ok (i (bitField w))

/-- The unit a unit command names; 2 and 3 are illegal (R141, R143). -/
def decodeUnit (w : Word) : Except DecodeError UnitId :=
  if unitField w = 0#2 then .ok .radiator
  else if unitField w = 1#2 then .ok .boiler
  else .error .unitIllegal

/-- A unit command with the `simm` immediate (R142, R143). -/
def decodeUnitSimm (i : UnitId → BitVec 16 → Instr) (w : Word) : Except DecodeError Instr :=
  match decodeUnit w with
  | .error e => .error e
  | .ok u => .ok (i u (immField w))

/-- A unit command with IMM 0 (R142, R143). -/
def decodeUnitPlain (i : UnitId → Instr) (w : Word) : Except DecodeError Instr :=
  match decodeUnit w with
  | .error e => .error e
  | .ok u => if immField w ≠ 0#16 then .error .immediateNotZero else .ok (i u)

/-- The opcode map of R145, for a word whose RSV field is 0. -/
def decodeOpcode (w : Word) : Except DecodeError Instr :=
  if opcField w = 0x00#8 then decodePlain .nop w
  else if opcField w = 0x01#8 then decodePlain .srchStart w
  else if opcField w = 0x02#8 then decodePlain .srchNext w
  else if opcField w = 0x08#8 then decodePlain .crcClr w
  else if opcField w = 0x09#8 then decodeByte .crcByte w
  else if opcField w = 0x0A#8 then decodePlain .crcAddr w
  else if opcField w = 0x10#8 then decodeRaw .decSensor w
  else if opcField w = 0x11#8 then decodeRaw .decTc w
  else if opcField w = 0x20#8 then decodeUnitSimm .regSettgt w
  else if opcField w = 0x21#8 then decodeUnitSimm .regStep w
  else if opcField w = 0x22#8 then decodeUnitPlain .regReset w
  else if opcField w = 0x30#8 then decodeUnitSimm .casSensor w
  else if opcField w = 0x31#8 then decodeUnitPlain .casStep w
  else if opcField w = 0x32#8 then decodeUnitPlain .casGetout w
  else if opcField w = 0x33#8 then decodeUnitPlain .casGetabs w
  else if opcField w = 0x40#8 then decodeBit .actSet w
  else if opcField w = 0x41#8 then decodeBit .actClr w
  else if opcField w = 0x42#8 then decodePlain .slice w
  else .error .unknownOpcode

/-- Decoding, total on every 32-bit word (R148). -/
def decode (w : Word) : Except DecodeError Instr :=
  if rsvField w ≠ 0#6 then .error .reservedNotZero else decodeOpcode w

/-- The value of the UNIT field for a unit (R141, R143). -/
def unitBits : UnitId → BitVec 32
  | .radiator => 0#32
  | .boiler => 1#32

/-- A command word from its parts: `OPC | (u << 8) | (imm16 << 16)` (R149). -/
def commandWord (opc : BitVec 8) (unit : BitVec 32) (imm : BitVec 16) : Word :=
  opc.zeroExtend 32 ||| (unit <<< 8) ||| (imm.zeroExtend 32 <<< 16)

/-- The encoder (R145, R149). -/
def encode : Instr → Word
  | .nop => commandWord 0x00#8 0#32 0#16
  | .srchStart => commandWord 0x01#8 0#32 0#16
  | .srchNext => commandWord 0x02#8 0#32 0#16
  | .crcClr => commandWord 0x08#8 0#32 0#16
  | .crcByte b => commandWord 0x09#8 0#32 (b.zeroExtend 16)
  | .crcAddr => commandWord 0x0A#8 0#32 0#16
  | .decSensor raw => commandWord 0x10#8 0#32 raw
  | .decTc raw => commandWord 0x11#8 0#32 raw
  | .regSettgt u v => commandWord 0x20#8 (unitBits u) v
  | .regStep u v => commandWord 0x21#8 (unitBits u) v
  | .regReset u => commandWord 0x22#8 (unitBits u) 0#16
  | .casSensor u v => commandWord 0x30#8 (unitBits u) v
  | .casStep u => commandWord 0x31#8 (unitBits u) 0#16
  | .casGetout u => commandWord 0x32#8 (unitBits u) 0#16
  | .casGetabs u => commandWord 0x33#8 (unitBits u) 0#16
  | .actSet b => commandWord 0x40#8 0#32 (b.zeroExtend 16)
  | .actClr b => commandWord 0x41#8 0#32 (b.zeroExtend 16)
  | .slice => commandWord 0x42#8 0#32 0#16

/-- The match and mask table of R145, one (match, mask) pair per row, in the table's order. -/
def matchMaskRows : List (Word × Word) :=
  [ (0x00000000#32, 0xFFFFFFFF#32), (0x00000001#32, 0xFFFFFFFF#32), (0x00000002#32, 0xFFFFFFFF#32),
    (0x00000008#32, 0xFFFFFFFF#32), (0x00000009#32, 0xFF00FFFF#32), (0x0000000A#32, 0xFFFFFFFF#32),
    (0x00000010#32, 0x0000FFFF#32), (0x00000011#32, 0x0000FFFF#32), (0x00000020#32, 0x0000FEFF#32),
    (0x00000021#32, 0x0000FEFF#32), (0x00000022#32, 0xFFFFFEFF#32), (0x00000030#32, 0x0000FEFF#32),
    (0x00000031#32, 0xFFFFFEFF#32), (0x00000032#32, 0xFFFFFEFF#32), (0x00000033#32, 0xFFFFFEFF#32),
    (0x00000040#32, 0xFFF8FFFF#32), (0x00000041#32, 0xFFF8FFFF#32), (0x00000042#32, 0xFFFFFFFF#32) ]

/-- `w` matches the row: `(w and mask) = match` (R145). -/
def rowMatches (w : Word) (row : Word × Word) : Bool := w &&& row.2 == row.1

/-- The host's view of the decoder: the bits of `w` below `nbits`, the others 0. A command is one
32-bit word (R140), so a row has no further word. -/
def decodeTableWord (nbits w : Nat) : Option Instr :=
  match decode (BitVec.ofNat 32 (w % 2 ^ nbits)) with
  | .ok i => some i
  | .error _ => none

end Sys2Proof
end

