-- ==== Sys2Proof/Machine/Arith.lean ====
section
/-! DEFINITION. Exact integer arithmetic (R17, R18) and the bit-field helpers every family uses. -/

namespace Sys2Proof.Machine

/-- Division truncated toward zero (R18). -/
def tdiv (a b : Int) : Int := Int.tdiv a b

/-- `lo` below `lo`, `hi` above `hi`, else `v` (R17). -/
def clamp (v lo hi : Int) : Int := if v < lo then lo else if hi < v then hi else v

/-- The larger of two numbers (R17). -/
def imax (a b : Int) : Int := if a ≤ b then b else a

/-- The absolute value (R17). -/
def iabs (v : Int) : Int := if v < 0 then -v else v

/-- A number as an int32 register's pattern (R24). -/
def toWord (v : Int) : Word := BitVec.ofInt 32 v

/-- A number as an int16 register's pattern (R24). -/
def toHalf (v : Int) : Half := BitVec.ofInt 16 v

/-- `sext32` of an int16 (R103). -/
def sext32 (v : Half) : Word := v.signExtend 32

/-- A flag as a number (R192, R199). -/
def bitWord (b : Bool) : Word := if b then 1#32 else 0#32

/-- `v[i] <- b` on a pattern of any width (R16). -/
def setBit {n : Nat} (v : BitVec n) (i : Nat) (b : Bool) : BitVec n :=
  if b then v ||| BitVec.twoPow n i else v &&& ~~~(BitVec.twoPow n i)

/-- Byte `A[i]` of an address: bits `8i+7 .. 8i` (R34). -/
def addrByte (a : DeviceAddress) (i : Nat) : Byte := a.extractLsb' (8 * i) 8

/-- The bytes `A[0] .. A[6]` of an address (R21, R199). -/
def addrPayload (a : DeviceAddress) : List Byte := (List.range 7).map (addrByte a)

/-- One bit of `crc8_step` (R196). -/
def crc8Bit (cb : Byte × Byte) : Byte × Byte :=
  let shifted := cb.1 >>> 1
  (if (cb.1 ^^^ cb.2).getLsbD 0 then shifted ^^^ 0x8C#8 else shifted, cb.2 >>> 1)

/-- `crc8_step(c, b)`, eight bits of it (R196). -/
def crc8Step (c b : Byte) : Byte :=
  (crc8Bit (crc8Bit (crc8Bit (crc8Bit (crc8Bit (crc8Bit (crc8Bit (crc8Bit (c, b))))))))).1

/-- `crc8(b_0 .. b_{n-1})`, `b_0` first (R196). -/
def crc8 (bytes : List Byte) : Byte := bytes.foldl crc8Step 0#8

/-- The direction values (R22). -/
inductive Direction where
  | up
  | down
  | stop
  deriving DecidableEq, Repr

/-- `dir(v)` of a signed output (R22). -/
def dir (v : Int) : Direction := if 0 < v then .up else if v < 0 then .down else .stop

end Sys2Proof.Machine
end

