-- ==== Sys2Proof/Config.lean ====
section
/-! DEFINITION. The configuration of a model instance (R8 to R14), the example configuration D50,
and the free values of the two oracles (the transport and the clock). -/

namespace Sys2Proof

/-- Which direction a positive regulator output means (R10, DIR_POL). -/
inductive DirPol where
  | posUp
  | posDown
  deriving DecidableEq, Repr

/-- How missing boiler inputs are counted (R12, R321, BOILER_MISS_MODE). -/
inductive MissMode where
  | perInput
  | once
  deriving DecidableEq, Repr

/-- The regulator parameters of one unit (R9). -/
structure RegParams where
  kp : Int
  ki : Int
  kd : Int
  outMax : Int
  outMin : Int
  largeErr : Int
  iDiv : Int
  iClampDiv : Int
  dSmooth : Int
  dLimit : Int
  outAvg : Bool
  deriving DecidableEq, Repr

/-- The cascade frame parameters of one unit (R10). -/
structure FrameParams where
  failThreshold : Nat
  failSat : Nat
  dirPol : DirPol
  deriving DecidableEq, Repr

/-- The radiator parameters (R11). -/
structure RadParams where
  feedAddr : DeviceAddress
  indoorAddr : DeviceAddress
  outdoorAddr : DeviceAddress
  baseZero : Int
  outdoorK : Int
  indoorTarget : Int
  indoorGain : Int
  minTemp : Int
  maxTemp : Int
  indoorDefault : Int
  outdoorDefault : Int
  feedFaultValue : Int
  feedFaultGuard : Int
  feedInit : Int
  deriving DecidableEq, Repr

/-- The boiler parameters (R12). -/
structure BoilParams where
  inletAddr : DeviceAddress
  outletAddr : DeviceAddress
  flueAddr : DeviceAddress
  minDelta : Int
  maxDelta : Int
  baseTarget : Int
  outletMax : Int
  nearDelta : Int
  flueFire : Int
  gapMax : Int
  avgDiv : Int
  inletSentinel : Int
  outletInit : Int
  missMode : MissMode
  deriving DecidableEq, Repr

/-- The actuator bit positions (R13); a bit index 0..7 is a `Fin 8`. -/
structure ActParams where
  radUp : Fin 8
  radDown : Fin 8
  boilUp : Fin 8
  boilDown : Fin 8
  pump : Fin 8
  deriving DecidableEq, Repr

/-- The whole configuration (R8 to R14). It is fixed before reset and never changes (R441). -/
structure Config where
  searchCap : Nat
  searchRomCmd : Byte
  sensorMin : Int
  sensorMax : Int
  reg0 : RegParams
  reg1 : RegParams
  frame0 : FrameParams
  frame1 : FrameParams
  rad : RadParams
  boil : BoilParams
  act : ActParams
  /-- CYCLE_PERIOD_MS: the host's; no rule of the block reads it (R14). -/
  cyclePeriodMs : Nat
  deriving DecidableEq, Repr

/-- The regulator parameters of unit `u` (R9). -/
def Config.reg (c : Config) : UnitId → RegParams
  | .radiator => c.reg0
  | .boiler => c.reg1

/-- The frame parameters of unit `u` (R10). -/
def Config.frame (c : Config) : UnitId → FrameParams
  | .radiator => c.frame0
  | .boiler => c.frame1

/-- The regulator of D50, used by both units of the example configuration. -/
def RegParams.d50 : RegParams :=
  { kp := 4, ki := 1, kd := 8, outMax := 10000, outMin := -10000, largeErr := 160, iDiv := 16,
    iClampDiv := 2, dSmooth := 2, dLimit := 10000, outAvg := false }

/-- The frame of D50, used by both units of the example configuration. -/
def FrameParams.d50 : FrameParams :=
  { failThreshold := 3, failSat := 255, dirPol := .posDown }

/-- The example configuration of 92_eei_decisions.md D50. DESIGN CHOICE (notes/assumptions/1.md):
`State.reset` carries it, because the spec leaves every parameter open and gives this one example;
unsafe for a statement that rests on one of its numbers. -/
def Config.d50 : Config :=
  { searchCap := 32, searchRomCmd := 0xF0#8, sensorMin := -880, sensorMax := 2000,
    reg0 := RegParams.d50, reg1 := RegParams.d50, frame0 := FrameParams.d50,
    frame1 := FrameParams.d50,
    rad :=
      { feedAddr := 0x2900000000000128#64, indoorAddr := 0x7000000000000228#64,
        outdoorAddr := 0x4700000000000328#64, baseZero := 640, outdoorK := 2, indoorTarget := 336,
        indoorGain := 4, minTemp := 400, maxTemp := 800, indoorDefault := 336, outdoorDefault := 0,
        feedFaultValue := 1360, feedFaultGuard := 960, feedInit := -1600 },
    boil :=
      { inletAddr := 0xC200000000000428#64, outletAddr := 0xF500000000000528#64,
        flueAddr := 0x00000000000000FF#64, minDelta := 32, maxDelta := 160, baseTarget := 560,
        outletMax := 1280, nearDelta := 80, flueFire := 1600, gapMax := 640, avgDiv := 8,
        inletSentinel := -1600, outletInit := -1600, missMode := .perInput },
    act := { radUp := 0, radDown := 1, boilUp := 2, boilDown := 3, pump := 4 },
    cyclePeriodMs := 30000 }

/-- A free value: the transport's answer number `n` where no answer is given in the state. The
transport "may answer anything" (R220, I4), so nothing is said of it (notes/assumptions/3.md). -/
opaque Config.freeBusAnswer : Nat → Bool

/-- A free value: by how many ticks the clock agent advances the millisecond counter before reading
number `n`, where the state gives no tick (R412, I7); it may be 0 for ever (R471)
(notes/assumptions/4.md). -/
opaque Config.freeClockAdvance : Nat → Word

end Sys2Proof
end

