-- ==== Sys2Proof/Machine/State.lean ====
section
/-! DEFINITION. The state of the block, of what it shares with its external agents, and its reset. -/

namespace Sys2Proof.Machine

/-- FAULT_CODE (R33, R400). Codes 3 to 15 are never written (U5), so they have no name here. -/
inductive FaultCode where
  | none
  | illegalCommand
  | accessFault
  deriving DecidableEq, Repr

/-- ERR_CODE (R36). Codes 5 to 7 are never written (U6), so they have no name here. -/
inductive ErrCode where
  | ok
  | resetFailed
  | busConflict0
  | busConflict1
  | crcMismatch
  deriving DecidableEq, Repr

/-- The STATUS fields (R33). -/
structure Status where
  fault : Bool
  faultCode : FaultCode
  found : Bool
  crcOk : Bool
  valid : Bool
  deriving DecidableEq, Repr

/-- The SearchState registers (R36). VISITED has SEARCH_CAP bits; those above read 0. -/
structure Search where
  visited : BitVec 32
  errCode : ErrCode
  exhausted : Bool
  errBytePos : BitVec 3
  errBitMask : BitVec 8
  deriving DecidableEq, Repr

/-- The RegulatorState registers of one unit (R39). -/
structure Regulator where
  target : Word
  prevInput : Half
  havePrev : Bool
  integral : Word
  deriv : Word
  lastOut : Word
  deriving DecidableEq, Repr

/-- The frame registers of one unit (R40), but CURRENT, which stands with the unit's own inputs. -/
structure Frame where
  failCount : Byte
  casOut : Word
  casTarget : Word
  tripped : Bool
  lastTicks : Byte
  deriving DecidableEq, Repr

/-- The radiator's auxiliary registers (R41). U[0].CURRENT is `feed`: one register, two names. -/
structure Radiator where
  feed : Half
  indoor : Half
  outdoor : Half
  freshFeed : Bool
  deriving DecidableEq, Repr

/-- The boiler's auxiliary registers (R42) and its own CURRENT (R40, R42). -/
structure Boiler where
  current : Half
  inlet : Half
  outlet : Half
  flue : Half
  flueValid : Bool
  avg : Half
  avgValid : Bool
  freshIn : Bool
  freshOut : Bool
  pumpOn : Bool
  guard : Bool
  deriving DecidableEq, Repr

/-- A SLICE whose schedule has begun and not ended (R32, R365): the reading `t0` it is measured from, the
latest reading `last`, which actuator is stopped first, the two hold times in ms, and whether the first
stop is done. It is internal to the one command. -/
structure SliceProgress where
  t0 : Word
  last : Word
  first : UnitId
  tFirst : Word
  tSecond : Word
  firstStopped : Bool
  deriving DecidableEq, Repr

/-- The ideal wired-AND bus of R220: the devices it holds, those still active in the walk, how many bits
of the command byte are still to come, the address bit position, and whether the next read is the
complement sample. -/
structure IdealBus where
  devices : List DeviceAddress
  active : List DeviceAddress
  commandBits : Nat
  pos : Nat
  complementNext : Bool
  deriving DecidableEq, Repr

/-- The transport agent (R5, R220): an oracle that answers anything, with the answers it is about to
give and how many it has given, or the ideal bus of the derived properties. -/
inductive Transport where
  | oracle (answers : List Bool) (count : Nat)
  | ideal (bus : IdealBus)
  deriving DecidableEq, Repr

/-- An access of the host (R101): its width in bits, its byte offset, and for a write the word. -/
inductive HostAccess where
  | read (width offset : Nat)
  | write (width offset : Nat) (value : Word)
  deriving DecidableEq, Repr

/-- What the world outside the block does next: a host access (R181, R182), a reset (R440), or the
millisecond counter advancing by `n` ticks (R412). -/
inductive Input where
  | access (a : HostAccess)
  | reset
  | ticks (n : Nat)
  deriving DecidableEq, Repr

/-- What the block's external interfaces saw: a bus reset and its answer, a bit read, a bit written, a
write of the output port, a reading of the millisecond counter (R19, R116). -/
inductive Event where
  | busReset (present : Bool)
  | busRead (b : Bool)
  | busWrite (b : Bool)
  | portWrite (v : Byte)
  | clockRead (c : Word)
  deriving DecidableEq, Repr

/-- The whole state. `cfg` to `slice` are the block's; `clock` to `trace` are the world's share: the
platform's counter, the transport, the accesses still to come, and the record of what was seen. -/
structure State where
  /-- The configuration, fixed before reset (R8 to R15, R441). -/
  cfg : Config
  /-- RES (R33). -/
  res : Word
  /-- STATUS (R33). -/
  status : Status
  /-- ADDR_IN (R34). -/
  addrIn : DeviceAddress
  /-- ADDR_OUT (R35). -/
  addrOut : DeviceAddress
  /-- The SearchState (R36). -/
  search : Search
  /-- CRC_ACC (R38). -/
  crcAcc : Byte
  /-- The regulator of unit 0 (R39). -/
  reg0 : Regulator
  /-- The regulator of unit 1 (R39). -/
  reg1 : Regulator
  /-- The frame of unit 0 (R40). -/
  frame0 : Frame
  /-- The frame of unit 1 (R40). -/
  frame1 : Frame
  /-- The radiator's inputs (R41). -/
  rad : Radiator
  /-- The boiler's inputs (R42). -/
  boil : Boiler
  /-- ACT (R44). -/
  act : Byte
  /-- PORT (R45). -/
  port : Byte
  /-- The SLICE in progress, if any (R32). -/
  slice : Option SliceProgress
  /-- The platform's millisecond counter (R46): an agent's, not the block's. -/
  clock : Word
  /-- How often the counter has been read: the index of the clock's free values (the model's own). -/
  clockReads : Nat
  /-- The transport agent (R47, R220). -/
  bus : Transport
  /-- What the world does next, first one first (the model's own). -/
  inputs : List Input
  /-- The word the last host read returned (R181; the model's own). -/
  readData : Word
  /-- What the external interfaces saw, latest first (the model's own). -/
  trace : List Event
  deriving DecidableEq, Repr

/-- The block stops with no fault. Its two faults (R400) only set sticky STATUS bits and the run goes on
(R401, R407), so they are next states, and R400 says that nothing else is one. Safe. -/
inductive Fault where
  deriving DecidableEq, Repr

/-- Why a step has no meaning. -/
inductive Refusal where
  /-- Raised by a refused arm of `exec` for a command not modelled yet; no arm is left that raises it.
  Safe: the model stops where the block would go on. -/
  | notModelled (mnemonic : String)
  /-- Raised by `step` when the configuration is not well-formed: "the spec gives it no behaviour" (R15,
  R450, U7). Safe. -/
  | illFormedConfiguration
  deriving DecidableEq, Repr

/-- The regulator registers at reset (R441). -/
def Regulator.reset : Regulator :=
  { target := 0#32, prevInput := 0#16, havePrev := false, integral := 0#32, deriv := 0#32,
    lastOut := 0#32 }

/-- The frame registers at reset (R441). -/
def Frame.reset : Frame :=
  { failCount := 0#8, casOut := 0#32, casTarget := 0#32, tripped := false, lastTicks := 0#8 }

/-- The machine right after reset with the configuration `c` (R440, R441): every register at its reset
value and the port written once with 0xFF. The counter starts at 0 (DESIGN CHOICE, the spec leaves it
unspecified, R46: notes/assumptions/2.md), no transport answer and no access is given. -/
def State.resetWith (c : Config) : State :=
  { cfg := c
    res := 0#32
    status :=
      { fault := false, faultCode := .none, found := false, crcOk := false, valid := false }
    addrIn := 0#64
    addrOut := 0#64
    search :=
      { visited := 0#32, errCode := .ok, exhausted := false, errBytePos := 0#3,
        errBitMask := 0#8 }
    crcAcc := 0#8
    reg0 := Regulator.reset
    reg1 := Regulator.reset
    frame0 := Frame.reset
    frame1 := Frame.reset
    rad :=
      { feed := BitVec.ofInt 16 c.rad.feedInit, indoor := BitVec.ofInt 16 c.rad.indoorDefault,
        outdoor := BitVec.ofInt 16 c.rad.outdoorDefault, freshFeed := false }
    boil :=
      { current := BitVec.ofInt 16 c.boil.inletSentinel,
        inlet := BitVec.ofInt 16 c.boil.inletSentinel,
        outlet := BitVec.ofInt 16 c.boil.outletInit,
        flue := 0#16, flueValid := false, avg := 0#16, avgValid := false, freshIn := false,
        freshOut := false, pumpOn := false, guard := false }
    act := 0x00#8
    port := 0xFF#8
    slice := Option.none
    clock := 0#32
    clockReads := 0
    bus := .oracle [] 0
    inputs := []
    readData := 0#32
    trace := [.portWrite 0xFF#8] }

/-- The machine right after reset (R441), with the example configuration D50 (notes/assumptions/1.md). -/
def State.reset : State := State.resetWith Config.d50

end Sys2Proof.Machine
end

