-- ==== Sys2Proof/Machine/Flags.lean ====
section
/-! DEFINITION. The STATUS fields a command writes (R33), the codes of FAULT_CODE and ERR_CODE, and the
status words the host reads (R103). -/

namespace Sys2Proof.Machine

/-- FAULT_CODE's number (R400). -/
def faultCodeBits : FaultCode → BitVec 4
  | .none => 0#4
  | .illegalCommand => 1#4
  | .accessFault => 2#4

/-- ERR_CODE's number (R36). -/
def errCodeBits : ErrCode → BitVec 3
  | .ok => 0#3
  | .resetFailed => 1#3
  | .busConflict0 => 2#3
  | .busConflict1 => 3#3
  | .crcMismatch => 4#3

/-- STATUS.FOUND <- b (R221, R222). -/
def State.setFound (s : State) (b : Bool) : State := { s with status := { s.status with found := b } }

/-- STATUS.CRC_OK <- b (R199). -/
def State.setCrcOk (s : State) (b : Bool) : State := { s with status := { s.status with crcOk := b } }

/-- STATUS.VALID <- b (R192, R194). -/
def State.setValid (s : State) (b : Bool) : State := { s with status := { s.status with valid := b } }

/-- A flag at bit `i` of a host word. -/
def flagAt (b : Bool) (i : Nat) : Word := bitWord b <<< i

/-- The STATUS word (R103): [0] FAULT, [7:4] FAULT_CODE, [8] FOUND, [9] CRC_OK, [10] VALID. -/
def statusWord (st : Status) : Word :=
  flagAt st.fault 0 ||| ((faultCodeBits st.faultCode).zeroExtend 32 <<< 4) ||| flagAt st.found 8
    ||| flagAt st.crcOk 9 ||| flagAt st.valid 10

/-- The SRCH_STATE word (R103): [2:0] ERR_CODE, [3] EXHAUSTED, [10:8] ERR_BYTEPOS,
[23:16] ERR_BITMASK. -/
def searchWord (q : Search) : Word :=
  (errCodeBits q.errCode).zeroExtend 32 ||| flagAt q.exhausted 3
    ||| (q.errBytePos.zeroExtend 32 <<< 8) ||| (q.errBitMask.zeroExtend 32 <<< 16)

/-- The CAS_FLAGS word of unit 0 (R103). -/
def radiatorFlags (f : Frame) (r : Radiator) : Word := flagAt f.tripped 0 ||| flagAt r.freshFeed 1

/-- The CAS_FLAGS word of unit 1 (R103). -/
def boilerFlags (f : Frame) (b : Boiler) : Word :=
  flagAt f.tripped 0 ||| flagAt b.freshIn 1 ||| flagAt b.freshOut 2 ||| flagAt b.flueValid 3
    ||| flagAt b.avgValid 4 ||| flagAt b.pumpOn 5 ||| flagAt b.guard 6

end Sys2Proof.Machine
end

