-- ==== Sys2Proof/Machine/Operands.lean ====
section
/-! DEFINITION. The operand forms: the four immediates (R142), the unit (R143), and the registers of a
unit, read and written under one name. -/

namespace Sys2Proof.Machine

/-- The `simm` immediate: a temperature (R142). -/
def simm (imm : Half) : Int := imm.toInt

/-- The `bit` immediate as a bit index (R142). -/
def bitIndex (b : BitVec 3) : Nat := b.toNat

/-- The regulator of unit `u` (R39). -/
def State.reg (s : State) : UnitId → Regulator
  | .radiator => s.reg0
  | .boiler => s.reg1

/-- The regulator of unit `u` replaced (R39). -/
def State.setReg (s : State) (u : UnitId) (r : Regulator) : State :=
  match u with
  | .radiator => { s with reg0 := r }
  | .boiler => { s with reg1 := r }

/-- The frame of unit `u` (R40). -/
def State.frame (s : State) : UnitId → Frame
  | .radiator => s.frame0
  | .boiler => s.frame1

/-- The frame of unit `u` replaced (R40). -/
def State.setFrame (s : State) (u : UnitId) (f : Frame) : State :=
  match u with
  | .radiator => { s with frame0 := f }
  | .boiler => { s with frame1 := f }

/-- U[u].CURRENT (R40): the radiator's is its FEED register (R41), the boiler's its own (R42). -/
def State.current (s : State) : UnitId → Half
  | .radiator => s.rad.feed
  | .boiler => s.boil.current

/-- U[u].CAS_OUT as a number (R40). -/
def State.casOutValue (s : State) (u : UnitId) : Int := (s.frame u).casOut.toInt

/-- The roles of a unit's addresses (R301, R311, R320): three per unit, in the order of the match. -/
inductive Role where
  | feed
  | indoor
  | outdoor
  | inlet
  | outlet
  | flue
  deriving DecidableEq, Repr

/-- Address routing (R301): the first of the unit's addresses equal to `a` names the role. -/
def route (c : Config) (u : UnitId) (a : DeviceAddress) : Option Role :=
  match u with
  | .radiator =>
    if a = c.rad.feedAddr then some .feed
    else if a = c.rad.indoorAddr then some .indoor
    else if a = c.rad.outdoorAddr then some .outdoor
    else none
  | .boiler =>
    if a = c.boil.inletAddr then some .inlet
    else if a = c.boil.outletAddr then some .outlet
    else if a = c.boil.flueAddr then some .flue
    else none

/-- UP_BIT of an actuator (R365): A is the radiator valve, B the boiler valve. -/
def upBit (c : Config) : UnitId → Nat
  | .radiator => c.act.radUp.val
  | .boiler => c.act.boilUp.val

/-- DOWN_BIT of an actuator (R365). -/
def downBit (c : Config) : UnitId → Nat
  | .radiator => c.act.radDown.val
  | .boiler => c.act.boilDown.val

/-- The unit that is not `u`. -/
def otherUnit : UnitId → UnitId
  | .radiator => .boiler
  | .boiler => .radiator

end Sys2Proof.Machine
end

