-- ==== Sys2Proof/Machine/Ops.lean ====
section
/-! DEFINITION. The primitives of R19 over the state, raising a fault (R401), and reset (R440), which is
the only way out of the faulted state (R406). The block has no memory, so no memory operation (R100). -/

namespace Sys2Proof.Machine

/-- `result(v)`: RES <- v (R19). -/
def State.result (s : State) (v : Word) : State := { s with res := v }

/-- `PortWrite(v)`: drives the output port with `v` (R19). -/
def State.portWrite (s : State) (v : Byte) : State :=
  { s with port := v, trace := .portWrite v :: s.trace }

/-- ACT <- a, followed at once by the port write of its complement (R361). -/
def State.writeAct (s : State) (a : Byte) : State :=
  State.portWrite { s with act := a } (a ^^^ 0xFF#8)

/-- The counter advances by `n` ticks and wraps (R46, R412). -/
def State.advanceClock (s : State) (n : Nat) : State :=
  { s with clock := s.clock + BitVec.ofNat 32 n }

/-- One `ClockNow()`: an atomic reading of the counter (R19, R366). -/
def State.readClock (s : State) : State :=
  { s with clockReads := s.clockReads + 1, trace := .clockRead s.clock :: s.trace }

/-- What one bus slot does to the transport agent: its answer and what it becomes. -/
structure BusAnswer where
  bit : Bool
  bus : Transport
  deriving DecidableEq, Repr

/-- The oracle's next answer: the one given, or else a free value (R220). -/
def oracleAnswer (answers : List Bool) (count : Nat) : BusAnswer :=
  match answers with
  | [] => { bit := Config.freeBusAnswer count, bus := .oracle [] (count + 1) }
  | b :: rest => { bit := b, bus := .oracle rest (count + 1) }

/-- The AND over the active devices of their bit `p`, or of its complement (R220). With no active device
the line stays high. -/
def wiredAnd (active : List DeviceAddress) (p : Nat) (complement : Bool) : Bool :=
  active.all (fun d => d.getLsbD p != complement)

/-- The transport's answer to a bus reset (R220). -/
def transportReset : Transport → BusAnswer
  | .oracle answers count => oracleAnswer answers count
  | .ideal b =>
    { bit := !b.devices.isEmpty,
      bus := .ideal { b with active := b.devices, commandBits := 8, pos := 0,
                             complementNext := false } }

/-- The transport's answer to a read slot (R220). -/
def transportRead : Transport → BusAnswer
  | .oracle answers count => oracleAnswer answers count
  | .ideal b =>
    { bit := wiredAnd b.active b.pos b.complementNext,
      bus := .ideal { b with complementNext := !b.complementNext } }

/-- The transport after a write slot (R220): on the ideal bus the first eight are the command byte, and
each later one deactivates the active devices whose bit is not `d`. -/
def transportWrite (t : Transport) (d : Bool) : Transport :=
  match t with
  | .oracle answers count => .oracle answers count
  | .ideal b =>
    match b.commandBits with
    | n + 1 => .ideal { b with commandBits := n }
    | 0 => .ideal { b with active := b.active.filter (fun a => a.getLsbD b.pos == d),
                           pos := b.pos + 1, complementNext := false }

/-- `BusReset()`: the answer and the state after it (R19). -/
def State.busReset (s : State) : Bool × State :=
  let r := transportReset s.bus
  (r.bit, { s with bus := r.bus, trace := .busReset r.bit :: s.trace })

/-- `BusReadBit()`: the answer and the state after it (R19). -/
def State.busReadBit (s : State) : Bool × State :=
  let r := transportRead s.bus
  (r.bit, { s with bus := r.bus, trace := .busRead r.bit :: s.trace })

/-- `BusWriteBit(d)` (R19). -/
def State.busWriteBit (s : State) (d : Bool) : State :=
  { s with bus := transportWrite s.bus d, trace := .busWrite d :: s.trace }

/-- `BusWriteByte(v)`: eight `BusWriteBit` calls, bit 0 of `v` first (R19). -/
def State.busWriteByte (s : State) (v : Byte) : State :=
  (List.range 8).foldl (fun t i => t.busWriteBit (v.getLsbD i)) s

/-- `raise Fault(code)` (R401): the sticky bit and, for the first fault, its code. It saves nothing,
changes no mode and jumps nowhere (R407). -/
def raiseFault (code : FaultCode) (s : State) : State :=
  if s.status.fault then s
  else { s with status := { s.status with fault := true, faultCode := code } }

/-- Reset (R440): every register of the block takes its value of R441, a command in progress is
abandoned, and the port is written once with 0xFF. What is not the block's stays: the configuration, the
counter, the transport, the accesses to come. It is the only way out of the faulted state (R406, R408):
there is no return from a fault. -/
def resetBlock (s : State) : State :=
  { State.resetWith s.cfg with
    clock := s.clock
    clockReads := s.clockReads
    bus := s.bus
    inputs := s.inputs
    readData := s.readData
    trace := .portWrite 0xFF#8 :: s.trace }

end Sys2Proof.Machine
end

