-- ==== Sys2Proof/Machine/Actuator.lean ====
section
/-! DEFINITION. The actuator register, the output port and the ActuatorTimeSlicer (45_actuator.md). A
SLICE spans several steps: its command step asserts the directions and reads the counter once; each later
step is one more reading of the counter, until both actuators are stopped (R365, R366, R471). -/

namespace Sys2Proof.Machine

/-- ACT_SET (R362). -/
def execActSet (bit : BitVec 3) (s : State) : Host.Outcome State Fault Refusal :=
  .next (s.writeAct (setBit s.act (bitIndex bit) true))

/-- ACT_CLR (R363). -/
def execActClr (bit : BitVec 3) (s : State) : Host.Outcome State Fault Refusal :=
  .next (s.writeAct (setBit s.act (bitIndex bit) false))

/-- The hold time of unit `u`'s valve in ms: the magnitude of its output (R364). -/
def holdTime (s : State) (u : UnitId) : Word := toWord (iabs (s.casOutValue u))

/-- The direction bits of unit `u`'s valve set to a direction (R365). -/
def assertDirection (c : Config) (u : UnitId) (d : Direction) (a : Byte) : Byte :=
  setBit (setBit a (upBit c u) (d == .up)) (downBit c u) (d == .down)

/-- ACT after the first write of SLICE (R365). -/
def assertedAct (s : State) : Byte :=
  assertDirection s.cfg .boiler (dir (s.casOutValue .boiler))
    (assertDirection s.cfg .radiator (dir (s.casOutValue .radiator)) s.act)

/-- The actuator stopped first: the shorter hold time, A on a tie (R365). -/
def firstStop (s : State) : UnitId :=
  if (holdTime s .radiator).toNat ≤ (holdTime s .boiler).toNat then .radiator else .boiler

/-- Stopping one actuator: both its direction bits cleared, one port write (R365). -/
def stopActuator (u : UnitId) (s : State) : State :=
  s.writeAct (setBit (setBit s.act (upBit s.cfg u) false) (downBit s.cfg u) false)

/-- SLICE up to its `ClockNow()` (R365). -/
def sliceBegin (s : State) : State :=
  let p : SliceProgress :=
    { t0 := s.clock, last := s.clock, first := firstStop s, tFirst := holdTime s (firstStop s),
      tSecond := holdTime s (otherUnit (firstStop s)), firstStopped := false }
  { (s.writeAct (assertedAct s)).readClock with slice := some p }

/-- Whether a wait of `t` ms from `t0` is over at the reading `c` (R366). -/
def waitOver (t0 c t : Word) : Bool := decide (t.toNat ≤ (c - t0).toNat)

/-- The first stop, when its wait is over at the latest reading (R365, R366). -/
def settleFirst (s : State) : State :=
  match s.slice with
  | none => s
  | some p =>
    if !p.firstStopped && waitOver p.t0 p.last p.tFirst then
      { stopActuator p.first s with slice := some { p with firstStopped := true } }
    else s

/-- The second stop and the end of the command, when its wait is over at the latest reading
(R365, R366). -/
def settleSecond (s : State) : State :=
  match s.slice with
  | none => s
  | some p =>
    if p.firstStopped && waitOver p.t0 p.last p.tSecond then
      State.result { stopActuator (otherUnit p.first) s with slice := none } p.tSecond
    else s

/-- Everything SLICE does at the latest reading, before the next one (R365, R366). -/
def sliceSettle (s : State) : State := settleSecond (settleFirst s)

/-- SLICE (R365). -/
def execSlice (s : State) : Host.Outcome State Fault Refusal := .next (sliceSettle (sliceBegin s))

/-- One more reading of the counter by a SLICE in progress (R366). -/
def sliceReading (s : State) : State :=
  match s.slice with
  | none => s
  | some p => sliceSettle { s.readClock with slice := some { p with last := s.clock } }

/-- A step while a SLICE is in progress: a reset abandons it (R440); else the clock agent advances the
counter, by the ticks given or by a free number, and the block reads it (R412). No host access is made
meanwhile (R110). -/
def continueSlice (s : State) : State :=
  match s.inputs with
  | .reset :: rest => resetBlock { s with inputs := rest }
  | .ticks n :: rest => sliceReading (State.advanceClock { s with inputs := rest } n)
  | _ => sliceReading (s.advanceClock (Config.freeClockAdvance s.clockReads).toNat)

end Sys2Proof.Machine
end

