-- ==== Sys2Proof/Machine/Regulator.lean ====
section
/-! DEFINITION. The RegulatorCore (43_regulator.md). -/

namespace Sys2Proof.Machine

/-- HALF (R262). -/
def halfRange (p : RegParams) : Int := tdiv (p.outMax - p.outMin) 2

/-- I_MAX (R262). -/
def integralMax (p : RegParams) : Int := tdiv p.outMax p.iClampDiv

/-- I_MIN (R262). -/
def integralMin (p : RegParams) : Int := tdiv p.outMin p.iClampDiv

/-- `err = current - TARGET` (R261). -/
def regErr (r : Regulator) (cur : Half) : Int := cur.toInt - r.target.toInt

/-- `din`: the change of the input since the previous step, 0 on the first (R263). -/
def regDin (r : Regulator) (cur : Half) : Int :=
  if r.havePrev then cur.toInt - r.prevInput.toInt else 0

/-- `d`, the smoothed derivative before its bound (R263). -/
def regD (p : RegParams) (r : Regulator) (cur : Half) : Int :=
  tdiv (r.deriv.toInt * (p.dSmooth - 1) + p.kd * regDin r cur) p.dSmooth

/-- The bounded derivative (R263). -/
def regDeriv (p : RegParams) (r : Regulator) (cur : Half) : Int :=
  clamp (regD p r cur) (-p.dLimit) p.dLimit

/-- The clamped integral (R263). -/
def regIntegral (p : RegParams) (r : Regulator) (cur : Half) : Int :=
  clamp (r.integral.toInt + tdiv (p.ki * regErr r cur) p.iDiv) (integralMin p) (integralMax p)

/-- The output of the normal law (R263). -/
def regOutput (p : RegParams) (r : Regulator) (cur : Half) : Int :=
  let y := clamp (p.kp * regErr r cur + regIntegral p r cur + regDeriv p r cur) p.outMin p.outMax
  if p.outAvg then tdiv (y + r.lastOut.toInt) 2 else y

/-- What a regulator step leaves and returns. -/
structure RegResult where
  reg : Regulator
  out : Int
  deriving DecidableEq, Repr

/-- A step that returns `y` (R263). -/
def regReturn (r : Regulator) (y : Int) : RegResult :=
  { reg := { r with lastOut := toWord y }, out := y }

/-- `RegStep(u, cur)` (R263). -/
def regStep (p : RegParams) (r : Regulator) (cur : Half) : RegResult :=
  let r1 := { r with prevInput := cur, havePrev := true }
  if p.largeErr < regErr r cur then regReturn r1 p.outMax
  else if regErr r cur < -p.largeErr then regReturn r1 p.outMin
  else
    let r2 := { r1 with deriv := toWord (regDeriv p r cur) }
    if halfRange p < regD p r cur then regReturn r2 p.outMax
    else if regD p r cur < -halfRange p then regReturn r2 p.outMin
    else regReturn { r2 with integral := toWord (regIntegral p r cur) } (regOutput p r cur)

/-- REG_SETTGT (R264). -/
def execRegSettgt (u : UnitId) (t : BitVec 16) (s : State) : Host.Outcome State Fault Refusal :=
  .next (s.setReg u { s.reg u with target := toWord (simm t) })

/-- REG_STEP (R265). -/
def execRegStep (u : UnitId) (cur : BitVec 16) (s : State) : Host.Outcome State Fault Refusal :=
  let r := regStep (s.cfg.reg u) (s.reg u) cur
  .next ((s.setReg u r.reg).result (toWord r.out))

/-- REG_RESET (R266). -/
def execRegReset (u : UnitId) (s : State) : Host.Outcome State Fault Refusal :=
  .next (s.setReg u { s.reg u with integral := 0#32, deriv := 0#32, lastOut := 0#32,
                                   havePrev := false })

end Sys2Proof.Machine
end

