-- ==== Sys2Proof/Machine/Cascade.lean ====
section
/-! DEFINITION. The CascadeEngine: the shared frame, the radiator policy and the boiler policy
(44_cascade.md). -/

namespace Sys2Proof.Machine

/-- What a sensor command leaves and returns. -/
structure SensorResult where
  state : State
  code : Word
  deriving DecidableEq, Repr

/-- `RadSensor(role, v)` and `BoilSensor(role, v)` for a valid `v` (R311, R320). -/
def storeReading (role : Role) (v : Half) (s : State) : SensorResult :=
  match role with
  | .feed =>
    if v.toInt = s.cfg.rad.feedFaultValue ∧ s.rad.feed.toInt < s.cfg.rad.feedFaultGuard then
      { state := s, code := 2#32 }
    else { state := { s with rad := { s.rad with feed := v, freshFeed := true } }, code := 1#32 }
  | .indoor => { state := { s with rad := { s.rad with indoor := v } }, code := 1#32 }
  | .outdoor => { state := { s with rad := { s.rad with outdoor := v } }, code := 1#32 }
  | .inlet =>
    { state := { s with boil := { s.boil with inlet := v, freshIn := true } }, code := 1#32 }
  | .outlet =>
    { state := { s with boil := { s.boil with outlet := v, freshOut := true } }, code := 1#32 }
  | .flue =>
    { state := { s with boil := { s.boil with flue := v, flueValid := true } }, code := 1#32 }

/-- `processSensor(address, value)` (R301 to R303). -/
def processSensor (u : UnitId) (v : Half) (s : State) : SensorResult :=
  match route s.cfg u s.addrIn with
  | none => { state := s, code := 0#32 }
  | some role => if v = invalidTemp then { state := s, code := 2#32 } else storeReading role v s

/-- CAS_SENSOR (R303). -/
def execCasSensor (u : UnitId) (v : BitVec 16) (s : State) : Host.Outcome State Fault Refusal :=
  let r := processSensor u v s
  .next (r.state.result r.code)

/-- `FailUpdate(ticks)`: the new FAIL_COUNT (R304). -/
def failUpdate (p : FrameParams) (count ticks : Nat) : Nat :=
  if ticks = 0 then 0 else min (count + ticks) p.failSat

/-- The trip test (R305). -/
def trips (p : FrameParams) (count : Nat) : Bool := decide (p.failThreshold < count)

/-- `CasOut(y)` (R306). -/
def casOut (p : FrameParams) (y : Int) : Int :=
  match p.dirPol with
  | .posUp => y
  | .posDown => -y

/-- `TripOut` (R306). -/
def tripOut (p : FrameParams) (r : RegParams) : Int :=
  match p.dirPol with
  | .posUp => r.outMin
  | .posDown => -r.outMax

/-- The frame's part of a step (R304 to R306): given the ticks, the target and the regulator input, count,
test, and either trip or set the target and step the regulator. -/
def frameStep (u : UnitId) (ticks : Nat) (target : Int) (input : Half) (s : State) : State :=
  let p := s.cfg.frame u
  let count := failUpdate p (s.frame u).failCount.toNat ticks
  let f : Frame :=
    { failCount := BitVec.ofNat 8 count, casOut := (s.frame u).casOut, casTarget := toWord target,
      tripped := trips p count, lastTicks := BitVec.ofNat 8 ticks }
  if trips p count then
    s.setFrame u { f with casOut := toWord (tripOut p (s.cfg.reg u)) }
  else
    let r := regStep (s.cfg.reg u) { s.reg u with target := toWord target } input
    (s.setReg u r.reg).setFrame u { f with casOut := toWord (casOut p r.out) }

/-- The radiator target law (R312). -/
def radTarget (p : RadParams) (indoor outdoor : Half) : Int :=
  clamp (p.baseZero - tdiv outdoor.toInt p.outdoorK + (p.indoorTarget - indoor.toInt) * p.indoorGain)
    p.minTemp p.maxTemp

/-- Radiator end of cycle (R314). -/
def radEndCycle (s : State) : State :=
  { s with rad := { s.rad with indoor := toHalf s.cfg.rad.indoorDefault,
                               outdoor := toHalf s.cfg.rad.outdoorDefault, freshFeed := false } }

/-- `RadStep()` before `result(ok)` (R313): only the feed is expected. -/
def radStep (s : State) : State :=
  radEndCycle (frameStep .radiator (if s.rad.freshFeed then 0 else 1)
    (radTarget s.cfg.rad s.rad.indoor s.rad.outdoor) s.rad.feed s)

/-- The boiler's missing inputs (R321). -/
def boilMissing (b : Boiler) : Nat := (if b.freshIn then 0 else 1) + (if b.freshOut then 0 else 1)

/-- The boiler's ticks for missing inputs (R321). -/
def boilMissTicks (p : BoilParams) (b : Boiler) : Nat :=
  match p.missMode with
  | .perInput => boilMissing b
  | .once => if 0 < boilMissing b then 1 else 0

/-- The gap guard's test (R322). -/
def gapGuard (p : BoilParams) (b : Boiler) : Bool :=
  decide (p.gapMax < iabs (b.outlet.toInt - b.inlet.toInt))

/-- The inlet value of the cycle (R322). -/
def boilInlet (p : BoilParams) (b : Boiler) : Half := if gapGuard p b then b.outlet else b.inlet

/-- All the boiler's ticks of the cycle (R321, R322). -/
def boilTicks (p : BoilParams) (b : Boiler) : Nat :=
  boilMissTicks p b + (if gapGuard p b then 1 else 0)

/-- The pump-stop condition (R323). -/
def pumpStop (p : BoilParams) (b : Boiler) : Bool :=
  decide (b.outlet.toInt < p.outletMax) && decide (boilTicks p b = 0)
  && b.avgValid && decide (b.outlet.toInt ≤ b.avg.toInt)
  && decide (iabs (b.outlet.toInt - (boilInlet p b).toInt) ≤ p.nearDelta)
  && b.flueValid && decide (b.flue.toInt < p.flueFire)

/-- The boiler targets (R324). -/
def boilTarget (p : BoilParams) (b : Boiler) : Int :=
  if pumpStop p b then imax (b.outlet.toInt - p.minDelta) ((boilInlet p b).toInt + p.minDelta)
  else imax (b.outlet.toInt - p.maxDelta) p.baseTarget

/-- `AvgUpdate(x)`: the new AVG (R326). -/
def avgUpdate (p : BoilParams) (b : Boiler) (x : Half) : Half :=
  if b.avgValid then toHalf (tdiv (b.avg.toInt * (p.avgDiv - 1) + x.toInt) p.avgDiv) else x

/-- Boiler end of cycle (R326, R327): the average, then the inlet sentinel and the fresh flags. -/
def boilEndCycle (p : BoilParams) (b : Boiler) : Boiler :=
  { b with avg := if b.freshOut then avgUpdate p b b.outlet else b.avg,
           avgValid := b.avgValid || b.freshOut,
           inlet := toHalf p.inletSentinel, freshIn := false, freshOut := false }

/-- `BoilStep()` before `result(ok)` (R325). -/
def boilStep (s : State) : State :=
  let p := s.cfg.boil
  let b := s.boil
  let t := frameStep .boiler (boilTicks p b) (boilTarget p b) (boilInlet p b) s
  let pump := t.frame1.tripped || !pumpStop p b
  let t := { t with boil := { b with current := boilInlet p b, guard := gapGuard p b,
                                     pumpOn := pump } }
  let t := t.writeAct (setBit t.act s.cfg.act.pump.val pump)
  { t with boil := boilEndCycle p t.boil }

/-- `step() -> bool` of unit `u`, before `result(ok)` (R308). -/
def cascadeStep (u : UnitId) (s : State) : State :=
  match u with
  | .radiator => radStep s
  | .boiler => boilStep s

/-- CAS_STEP (R308): RES is 1 when the step did not trip, 0 when it did. -/
def execCasStep (u : UnitId) (s : State) : Host.Outcome State Fault Refusal :=
  let t := cascadeStep u s
  .next (t.result (bitWord (!(t.frame u).tripped)))

/-- CAS_GETOUT (R309). -/
def execCasGetout (u : UnitId) (s : State) : Host.Outcome State Fault Refusal :=
  .next (s.result (s.frame u).casOut)

/-- CAS_GETABS (R310). -/
def execCasGetabs (u : UnitId) (s : State) : Host.Outcome State Fault Refusal :=
  .next (s.result (toWord (iabs (s.casOutValue u))))

end Sys2Proof.Machine
end

