-- ==== Sys2Proof/Machine/Codec.lean ====
section
/-! DEFINITION. The TemperatureCodec and the CRC8 unit (41_codec.md). -/

namespace Sys2Proof.Machine

/-- The decoded value of a sensor reading (R191). -/
def sensorValue (c : Config) (raw : Half) : Half :=
  if c.sensorMin ≤ raw.toInt ∧ raw.toInt ≤ c.sensorMax then raw else invalidTemp

/-- The decoded value of a thermocouple reading (R193): `4 * raw[14:3]`, or INVALID when `raw[15]` or
`raw[2]` is 1. -/
def thermocoupleValue (raw : Half) : Half :=
  if raw.getLsbD 15 || raw.getLsbD 2 then invalidTemp
  else (raw.extractLsb' 3 12).zeroExtend 16 <<< 2

/-- A decoder's result: RES and STATUS.VALID (R190, R192, R194). -/
def decoded (t : Half) (s : State) : State := (s.result (sext32 t)).setValid (t != invalidTemp)

/-- DEC_SENSOR (R192). -/
def execDecSensor (raw : BitVec 16) (s : State) : Host.Outcome State Fault Refusal :=
  .next (decoded (sensorValue s.cfg raw) s)

/-- DEC_TC (R194). -/
def execDecTc (raw : BitVec 16) (s : State) : Host.Outcome State Fault Refusal :=
  .next (decoded (thermocoupleValue raw) s)

/-- CRC_CLR (R197). -/
def execCrcClr (s : State) : Host.Outcome State Fault Refusal := .next { s with crcAcc := 0#8 }

/-- CRC_BYTE (R198). -/
def execCrcByte (byte : BitVec 8) (s : State) : Host.Outcome State Fault Refusal :=
  let c := crc8Step s.crcAcc byte
  .next (State.result { s with crcAcc := c } (c.zeroExtend 32))

/-- CRC_ADDR (R199). -/
def execCrcAddr (s : State) : Host.Outcome State Fault Refusal :=
  let c := crc8 (addrPayload s.addrIn)
  let ok := c == addrByte s.addrIn 7
  .next ((State.setCrcOk { s with crcAcc := c } ok).result (bitWord ok))

end Sys2Proof.Machine
end

