-- ==== Sys2Proof/Machine/Search.lean ====
section
/-! DEFINITION. The BusSearchEngine (42_bus_search.md). -/

namespace Sys2Proof.Machine

/-- SRCH_START (R221). -/
def execSrchStart (s : State) : Host.Outcome State Fault Refusal :=
  .next (State.setFound
    { s with search := { visited := 0#32, errCode := .ok, exhausted := false, errBytePos := 0#3,
                         errBitMask := 0#8 } } false)

/-- How a walk ends: at a conflict at bit position `p`, or after bit 63 with the deepest branch-0
collision ordinal (R222). -/
inductive WalkEnd where
  | conflict (code : ErrCode) (p : Nat)
  | complete (last0 : Option Nat)
  deriving DecidableEq, Repr

/-- Bit `p` chosen as `d`: written back to the bus and stored (R225). -/
def chooseBit (p : Nat) (d : Bool) (s : State) : State :=
  let t := s.busWriteBit d
  { t with addrOut := setBit t.addrOut p d }

/-- The walk from bit position `p` on, `n` positions to go, with the collision ordinal `k` and the
deepest branch-0 ordinal `last0` (R222, R225 to R227). -/
def walk : (n p k : Nat) → (last0 : Option Nat) → State → WalkEnd × State
  | 0, _, _, last0, s => (.complete last0, s)
  | n + 1, p, k, last0, s =>
    let ra := s.busReadBit
    let rb := ra.2.busReadBit
    let t := rb.2
    if ra.1 && rb.1 then (.conflict .busConflict1 p, t)
    else if !ra.1 && !rb.1 then
      if s.cfg.searchCap ≤ k then (.conflict .busConflict0 p, t)
      else if s.search.visited.getLsbD k then
        walk n (p + 1) (k + 1) last0 (chooseBit p true t)
      else walk n (p + 1) (k + 1) (some k) (chooseBit p false t)
    else walk n (p + 1) k last0 (chooseBit p ra.1 t)

/-- FOUND and RES of a call (R222). -/
def searchOutcome (found : Bool) (s : State) : State := (s.setFound found).result (bitWord found)

/-- `fail(code, p)` with no position: ResetFailed and CrcMismatch (R222, R224, R228). -/
def failPlain (code : ErrCode) (s : State) : State :=
  searchOutcome false
    { s with search := { s.search with errCode := code, errBytePos := 0#3, errBitMask := 0#8 } }

/-- `fail(code, p)` at bit position `p` (R222, R226, R227). -/
def failAt (code : ErrCode) (p : Nat) (s : State) : State :=
  searchOutcome false
    { s with search := { s.search with errCode := code, errBytePos := BitVec.ofNat 3 (p / 8),
                                       errBitMask := BitVec.twoPow 8 (p % 8) } }

/-- The VISITED update of a successful call (R229). -/
def nextVisited (visited : BitVec 32) : Option Nat → BitVec 32
  | none => 0#32
  | some last0 => (visited &&& (BitVec.twoPow 32 last0 - 1#32)) ||| BitVec.twoPow 32 last0

/-- A call that found an address (R229). -/
def searchSuccess (last0 : Option Nat) (s : State) : State :=
  let v := nextVisited s.search.visited last0
  searchOutcome true { s with search := { s.search with visited := v, exhausted := v == 0#32 } }

/-- After the walk: the CRC check and the update (R228, R229). -/
def finishWalk (last0 : Option Nat) (s : State) : State :=
  if crc8 (addrPayload s.addrOut) != addrByte s.addrOut 7 then failPlain .crcMismatch s
  else searchSuccess last0 s

/-- The walk of a call that a device answered: the command byte, then the 64 positions (R224, R225). -/
def searchWalk (s : State) : State :=
  match walk 64 0 0 none (s.busWriteByte s.cfg.searchRomCmd) with
  | (.conflict code p, t) => failAt code p t
  | (.complete last0, t) => finishWalk last0 t

/-- A call on a live session (R224): ADDR_OUT cleared, one bus reset, then the walk. -/
def searchLive (s : State) : State :=
  let r := State.busReset { s with addrOut := 0#64 }
  if r.1 then searchWalk r.2 else failPlain .resetFailed r.2

/-- A session is live when ERR_CODE = Ok and EXHAUSTED = 0 (R37). -/
def sessionLive (q : Search) : Bool := q.errCode == .ok && !q.exhausted

/-- SRCH_NEXT (R222, R223). -/
def searchNext (s : State) : State :=
  if sessionLive s.search then searchLive s else searchOutcome false s

/-- SRCH_NEXT (R222). -/
def execSrchNext (s : State) : Host.Outcome State Fault Refusal := .next (searchNext s)

end Sys2Proof.Machine
end

