-- ==== Sys2Proof/Machine/System.lean ====
section
/-! DEFINITION. The system command NOP (40_system.md). -/

namespace Sys2Proof.Machine

/-- NOP (R180): no state changes. -/
def execNop (s : State) : Host.Outcome State Fault Refusal := .next s

end Sys2Proof.Machine
end

