-- ==== Sys2Proof/Machine/Dispatch.lean ====
section
/-! DEFINITION. The meaning of every command, one arm each. -/

namespace Sys2Proof.Machine

/-- Performing one command (R183, R405 check 6). -/
def exec (i : Instr) (s : State) : Host.Outcome State Fault Refusal :=
  match i with
  | .nop => Sys2Proof.Machine.execNop s
  | .srchStart => Sys2Proof.Machine.execSrchStart s
  | .srchNext => Sys2Proof.Machine.execSrchNext s
  | .crcClr => Sys2Proof.Machine.execCrcClr s
  | .crcByte byte => Sys2Proof.Machine.execCrcByte byte s
  | .crcAddr => Sys2Proof.Machine.execCrcAddr s
  | .decSensor raw => Sys2Proof.Machine.execDecSensor raw s
  | .decTc raw => Sys2Proof.Machine.execDecTc raw s
  | .regSettgt u t => Sys2Proof.Machine.execRegSettgt u t s
  | .regStep u cur => Sys2Proof.Machine.execRegStep u cur s
  | .regReset u => Sys2Proof.Machine.execRegReset u s
  | .casSensor u v => Sys2Proof.Machine.execCasSensor u v s
  | .casStep u => Sys2Proof.Machine.execCasStep u s
  | .casGetout u => Sys2Proof.Machine.execCasGetout u s
  | .casGetabs u => Sys2Proof.Machine.execCasGetabs u s
  | .actSet bit => Sys2Proof.Machine.execActSet bit s
  | .actClr bit => Sys2Proof.Machine.execActClr bit s
  | .slice => Sys2Proof.Machine.execSlice s

end Sys2Proof.Machine
end

