-- ==== Sys2Proof/Machine/Window.lean ====
section
/-! DEFINITION. The host register window (R103): the words, their offsets, their contents and which of
them the host may read or write (20_memory.md). -/

namespace Sys2Proof.Machine

/-- The words of one unit's window (R103). -/
inductive UnitWord where
  | regTarget
  | regPrev
  | regIntegral
  | regDeriv
  | regLastout
  | casFail
  | casCurrent
  | casOut
  | casTarget
  | casFlags
  | casAux0
  | casAux1
  | casAux2
  | casAux3
  deriving DecidableEq, Repr

/-- The mapped words of the host window (R103). -/
inductive HostReg where
  | cmd
  | res
  | status
  | addrInLo
  | addrInHi
  | addrOutLo
  | addrOutHi
  | srchVisited
  | srchState
  | crc
  | actp
  | unit (u : UnitId) (r : UnitWord)
  deriving DecidableEq, Repr

/-- The words of a unit's window with their offsets in it (R103). -/
def unitMap : List (Nat × UnitWord) :=
  [ (0x00, .regTarget), (0x04, .regPrev), (0x08, .regIntegral), (0x0C, .regDeriv),
    (0x10, .regLastout), (0x14, .casFail), (0x18, .casCurrent), (0x1C, .casOut),
    (0x20, .casTarget), (0x24, .casFlags), (0x28, .casAux0), (0x2C, .casAux1),
    (0x30, .casAux2), (0x34, .casAux3) ]

/-- The register map (R103): every mapped offset with its word. The unit windows are at 0x040 and
0x080. -/
def registerMap : List (Nat × HostReg) :=
  [ (0x000, .cmd), (0x004, .res), (0x008, .status), (0x00C, .addrInLo), (0x010, .addrInHi),
    (0x014, .addrOutLo), (0x018, .addrOutHi), (0x01C, .srchVisited), (0x020, .srchState),
    (0x024, .crc), (0x028, .actp) ]
  ++ unitMap.map (fun e => (0x040 + e.1, HostReg.unit .radiator e.2))
  ++ unitMap.map (fun e => (0x080 + e.1, HostReg.unit .boiler e.2))

/-- The word at an offset; none at an unmapped one (R103). -/
def regAt (offset : Nat) : Option HostReg :=
  (registerMap.find? (fun e => e.1 == offset)).map Prod.snd

/-- The contents of a unit's word (R103). -/
def unitWordValue (s : State) (u : UnitId) : UnitWord → Word
  | .regTarget => (s.reg u).target
  | .regPrev => (s.reg u).prevInput.zeroExtend 32 ||| flagAt (s.reg u).havePrev 16
  | .regIntegral => (s.reg u).integral
  | .regDeriv => (s.reg u).deriv
  | .regLastout => (s.reg u).lastOut
  | .casFail =>
    (s.frame u).failCount.zeroExtend 32 ||| ((s.frame u).lastTicks.zeroExtend 32 <<< 8)
  | .casCurrent => sext32 (s.current u)
  | .casOut => (s.frame u).casOut
  | .casTarget => (s.frame u).casTarget
  | .casFlags =>
    match u with
    | .radiator => radiatorFlags s.frame0 s.rad
    | .boiler => boilerFlags s.frame1 s.boil
  | .casAux0 =>
    match u with
    | .radiator => sext32 s.rad.indoor
    | .boiler => sext32 s.boil.inlet
  | .casAux1 =>
    match u with
    | .radiator => sext32 s.rad.outdoor
    | .boiler => sext32 s.boil.outlet
  | .casAux2 =>
    match u with
    | .radiator => 0#32
    | .boiler => sext32 s.boil.flue
  | .casAux3 =>
    match u with
    | .radiator => 0#32
    | .boiler => sext32 s.boil.avg

/-- The SRCH_VISITED word (R103): bits [SEARCH_CAP-1:0]; the bits above read 0. -/
def visitedWord (s : State) : Word :=
  s.search.visited &&& BitVec.ofNat 32 (2 ^ s.cfg.searchCap - 1)

/-- The contents of a readable word (R103); CMD is not readable (R105). -/
def readReg (s : State) : HostReg → Option Word
  | .cmd => none
  | .res => some s.res
  | .status => some (statusWord s.status)
  | .addrInLo => some (s.addrIn.extractLsb' 0 32)
  | .addrInHi => some (s.addrIn.extractLsb' 32 32)
  | .addrOutLo => some (s.addrOut.extractLsb' 0 32)
  | .addrOutHi => some (s.addrOut.extractLsb' 32 32)
  | .srchVisited => some (visitedWord s)
  | .srchState => some (searchWord s.search)
  | .crc => some (s.crcAcc.zeroExtend 32)
  | .actp => some (s.act.zeroExtend 32 ||| (s.port.zeroExtend 32 <<< 8))
  | .unit u r => some (unitWordValue s u r)

/-- The words the host may write (R104, R105). -/
inductive WritableReg where
  | cmd
  | addrInLo
  | addrInHi
  deriving DecidableEq, Repr

/-- The writable word a mapped word is, if it is one (R105). -/
def writable : HostReg → Option WritableReg
  | .cmd => some .cmd
  | .addrInLo => some .addrInLo
  | .addrInHi => some .addrInHi
  | _ => none

/-- Check 1 of R405: a 32-bit access at an offset that is a multiple of 4 (R101). -/
def accessShapeOk (width offset : Nat) : Bool := width == 32 && offset % 4 == 0

/-- The word a read gives, after checks 1 to 3 of R405; none raises AccessFault. -/
def readWord (width offset : Nat) (s : State) : Option Word :=
  if accessShapeOk width offset then (regAt offset).bind (readReg s) else none

/-- The word a write names, after checks 1 to 3 of R405; none raises AccessFault. -/
def writeTarget (width offset : Nat) : Option WritableReg :=
  if accessShapeOk width offset then (regAt offset).bind writable else none

/-- A host read (R181): the word, or 0 and AccessFault. -/
def hostRead (width offset : Nat) (s : State) : State :=
  match readWord width offset s with
  | some v => { s with readData := v }
  | none => { raiseFault .accessFault s with readData := 0#32 }

/-- ADDR_IN[31:0] <- v (R104). -/
def writeAddrInLo (v : Word) (s : State) : State :=
  { s with addrIn := s.addrIn.extractLsb' 32 32 ++ v }

/-- ADDR_IN[63:32] <- v (R104). -/
def writeAddrInHi (v : Word) (s : State) : State :=
  { s with addrIn := v ++ s.addrIn.extractLsb' 0 32 }

end Sys2Proof.Machine
end

