-- ==== Sys2Proof/Machine/Access.lean ====
section
/-! DEFINITION. Command issue (R183), host accesses in the check order of R405, and one step of the block
and the world around it. -/

namespace Sys2Proof.Machine

/-- Command issue: what a write of `w` to CMD does (R183, R406). -/
def issue (w : Word) (s : State) : Host.Outcome State Fault Refusal :=
  if s.status.fault then .next s
  else
    match decode w with
    | .error _ => .next (raiseFault .illegalCommand s)
    | .ok i => exec i s

/-- A write that passed checks 1 to 3 of R405 (R182, R406). -/
def writeReg (r : WritableReg) (v : Word) (s : State) : Host.Outcome State Fault Refusal :=
  match r with
  | .cmd => issue v s
  | .addrInLo => .next (if s.status.fault then s else writeAddrInLo v s)
  | .addrInHi => .next (if s.status.fault then s else writeAddrInHi v s)

/-- One host access (R181, R182, R405). -/
def performAccess (a : HostAccess) (s : State) : Host.Outcome State Fault Refusal :=
  match a with
  | .read width offset => .next (hostRead width offset s)
  | .write width offset v =>
    match writeTarget width offset with
    | none => .next (raiseFault .accessFault s)
    | some r => writeReg r v s

/-- One input of the world to a block with no command in progress. With none the block is idle and keeps
all its state (R418). -/
def takeInput (s : State) : Host.Outcome State Fault Refusal :=
  match s.inputs with
  | [] => .next s
  | .access a :: rest => performAccess a { s with inputs := rest }
  | .reset :: rest => .next (resetBlock { s with inputs := rest })
  | .ticks n :: rest => .next (State.advanceClock { s with inputs := rest } n)

/-- One step: of the SLICE in progress, or else the world's next input (R110). -/
def advance (s : State) : Host.Outcome State Fault Refusal :=
  match s.slice with
  | some _ => .next (continueSlice s)
  | none => takeInput s

end Sys2Proof.Machine
end

