-- ==== Sys2Proof/WellFormed.lean ====
section
/-! DEFINITION. Well-formedness: of a configuration (R15, with the types of R8 to R13), which is the
block's one precondition (R450). A command needs no check: the fields of `Instr` admit only what R141 to
R146 call legal, and the decoder refuses every other word by name. -/

namespace Sys2Proof

/-- `v` is an int16. -/
def isInt16 (v : Int) : Bool := decide (-32768 ≤ v) && decide (v ≤ 32767)

/-- `v` is an int32. -/
def isInt32 (v : Int) : Bool := decide (-2147483648 ≤ v) && decide (v ≤ 2147483647)

/-- `v` is an int16 other than INVALID (R15, R20). -/
def isTemp (v : Int) : Bool := isInt16 v && decide (v ≠ invalidValue)

/-- The conditions of R15 on one unit's regulator, with the types of R9. -/
def RegParams.wf (p : RegParams) : Bool :=
  isInt16 p.kp && isInt16 p.ki && isInt16 p.kd
  && isInt32 p.outMax && isInt32 p.outMin && decide (p.outMin < 0) && decide (0 < p.outMax)
  && decide (-2147483648 < p.outMin)
  && isInt16 p.largeErr && decide (0 ≤ p.largeErr)
  && isInt16 p.iDiv && decide (1 ≤ p.iDiv)
  && isInt16 p.iClampDiv && decide (1 ≤ p.iClampDiv)
  && isInt16 p.dSmooth && decide (1 ≤ p.dSmooth)
  && isInt32 p.dLimit && decide (0 ≤ p.dLimit)

/-- The conditions of R15 on one unit's frame, with the types of R10. -/
def FrameParams.wf (p : FrameParams) : Bool :=
  decide (p.failSat ≤ 255) && decide (p.failThreshold < p.failSat)

/-- The conditions of R15 on the radiator parameters, with the types of R11. -/
def RadParams.wf (p : RadParams) : Bool :=
  decide (p.feedAddr ≠ p.indoorAddr) && decide (p.feedAddr ≠ p.outdoorAddr)
  && decide (p.indoorAddr ≠ p.outdoorAddr)
  && isInt16 p.baseZero && isInt16 p.outdoorK && decide (1 ≤ p.outdoorK)
  && isInt16 p.indoorTarget && isInt16 p.indoorGain
  && isInt16 p.minTemp && isInt16 p.maxTemp && decide (p.minTemp ≤ p.maxTemp)
  && isTemp p.indoorDefault && isTemp p.outdoorDefault
  && isTemp p.feedFaultValue && isInt16 p.feedFaultGuard && isTemp p.feedInit

/-- The conditions of R15 on the boiler parameters, with the types of R12. -/
def BoilParams.wf (p : BoilParams) : Bool :=
  decide (p.inletAddr ≠ p.outletAddr) && decide (p.inletAddr ≠ p.flueAddr)
  && decide (p.outletAddr ≠ p.flueAddr)
  && isInt16 p.minDelta && isInt16 p.maxDelta && isInt16 p.baseTarget && isInt16 p.outletMax
  && isInt16 p.nearDelta && decide (0 ≤ p.nearDelta)
  && isInt16 p.flueFire
  && isInt16 p.gapMax && decide (0 ≤ p.gapMax)
  && isInt16 p.avgDiv && decide (1 ≤ p.avgDiv)
  && isTemp p.inletSentinel && isTemp p.outletInit

/-- The five actuator bits are distinct (R13, R15). -/
def ActParams.wf (p : ActParams) : Bool :=
  decide (List.Nodup [p.radUp, p.radDown, p.boilUp, p.boilDown, p.pump])

/-- A well-formed configuration (R15, with the types of R8 to R13). -/
def Config.wf (c : Config) : Bool :=
  decide (1 ≤ c.searchCap) && decide (c.searchCap ≤ 32)
  && isInt16 c.sensorMin && isInt16 c.sensorMax && decide (c.sensorMin ≤ c.sensorMax)
  && decide (-32768 < c.sensorMin)
  && c.reg0.wf && c.reg1.wf && c.frame0.wf && c.frame1.wf && c.rad.wf && c.boil.wf && c.act.wf

end Sys2Proof
end

