-- ==== Sys2Proof/Machine/Step.lean ====
section
/-! DEFINITION. One step, and how the host places one command. -/

namespace Sys2Proof.Machine

/-- One step. An ill-formed configuration is refused: the spec gives it no behaviour (R15, R450, U7). -/
def step (s : State) : Host.Outcome State Fault Refusal :=
  if s.cfg.wf then advance s else .refused .illFormedConfiguration

/-- `s` with the command word `w` as the very next thing the host does: a 32-bit write of it to CMD, in
front of the accesses still to come, and no SLICE in progress, since none may be for a host access to be
made (R110, notes/assumptions/5.md). -/
def State.withFetchWord (s : State) (nbits w : Nat) : State :=
  { s with slice := none,
           inputs := .access (.write 32 0x000 (BitVec.ofNat 32 (w % 2 ^ nbits))) :: s.inputs }

end Sys2Proof.Machine
end

