-- ==== Sys2Proof/Safety.lean ====
section
/-! DEFINITION. What the claims speak of: the invariant every step keeps, the fields of a command's word,
the mapped offsets of the host window, the readings of a SLICE in progress, runs of one command, and the
slots and port writes a record of events holds. -/

namespace Sys2Proof.Safety

open Sys2Proof.Machine

/-- PORT is the complement of ACT between commands (R45, R361). -/
abbrev PortIsComplement (s : State) : Prop := s.port = s.act ^^^ 0xFF#8

/-- FAULT_CODE is a fault's code exactly when FAULT is set (R33, R400, R401). -/
abbrev FaultCodeAgrees (s : State) : Prop :=
  s.status.fault = true ↔ s.status.faultCode ≠ FaultCode.none

/-- INTEGRAL, DERIV and LAST_OUT lie in their ranges (R31, R268, R269). -/
abbrev RegulatorBounded (p : RegParams) (r : Regulator) : Prop :=
  integralMin p ≤ r.integral.toInt ∧ r.integral.toInt ≤ integralMax p
  ∧ -p.dLimit ≤ r.deriv.toInt ∧ r.deriv.toInt ≤ p.dLimit
  ∧ p.outMin ≤ r.lastOut.toInt ∧ r.lastOut.toInt ≤ p.outMax

/-- CAS_OUT is a regulator output or its negation (R31, R306). -/
abbrev OutputBounded (d : DirPol) (p : RegParams) (f : Frame) : Prop :=
  match d with
  | .posUp => p.outMin ≤ f.casOut.toInt ∧ f.casOut.toInt ≤ p.outMax
  | .posDown => -p.outMax ≤ f.casOut.toInt ∧ f.casOut.toInt ≤ -p.outMin

/-- FAIL_COUNT never exceeds FAIL_SAT (R31), is 0 exactly after a cycle with no tick (R304), and the unit
is tripped exactly when it exceeds FAIL_THRESHOLD (R305). -/
abbrev FailCountAgrees (p : FrameParams) (f : Frame) : Prop :=
  f.failCount.toNat ≤ p.failSat ∧ (f.failCount = 0#8 ↔ f.lastTicks = 0#8)
  ∧ f.lastTicks.toNat ≤ 3 ∧ (f.tripped = true ↔ p.failThreshold < f.failCount.toNat)

/-- An aborting bus conflict (R36, R226, R227). -/
abbrev isConflict (e : ErrCode) : Prop := e = .busConflict0 ∨ e = .busConflict1

/-- VISITED has SEARCH_CAP bits; a finished session has VISITED = 0 and no error (R37, R229); the conflict
record is one bit of one byte for a conflict and 0 otherwise (R36, R224, R226 to R228). -/
abbrev SearchAgrees (c : Config) (q : Search) : Prop :=
  q.visited.toNat < 2 ^ c.searchCap
  ∧ (q.exhausted = true → q.visited = 0#32 ∧ q.errCode = .ok)
  ∧ (isConflict q.errCode → ∃ j < 8, q.errBitMask = BitVec.twoPow 8 j)
  ∧ (¬ isConflict q.errCode → q.errBytePos = 0#3 ∧ q.errBitMask = 0#8)

/-- No stored input is the sentinel: it is "never fed to a regulator as a live input" (R302). -/
abbrev InputsAreReadings (s : State) : Prop :=
  s.rad.feed ≠ invalidTemp ∧ s.rad.indoor ≠ invalidTemp ∧ s.rad.outdoor ≠ invalidTemp
  ∧ s.boil.current ≠ invalidTemp ∧ s.boil.inlet ≠ invalidTemp ∧ s.boil.outlet ≠ invalidTemp
  ∧ s.boil.flue ≠ invalidTemp

/-- Whether the SLICE in progress has stopped the actuator of unit `u`. -/
abbrev stoppedInSlice (p : SliceProgress) (u : UnitId) : Bool :=
  p.firstStopped && decide (u = p.first)

/-- While a SLICE runs, an actuator not yet stopped shows the sign of its CAS_OUT and a stopped one is
off, so no actuator has both direction bits set (R365, R367). -/
abbrev SliceDrives (s : State) (p : SliceProgress) (u : UnitId) : Prop :=
  s.act.getLsbD (upBit s.cfg u)
      = (!stoppedInSlice p u && (dir (s.casOutValue u) == Direction.up))
  ∧ s.act.getLsbD (downBit s.cfg u)
      = (!stoppedInSlice p u && (dir (s.casOutValue u) == Direction.down))

/-- A SLICE in progress holds the schedule of the two outputs and still waits for a reading of the counter
(R365, R366), and the block is not faulted (R406). -/
abbrev SliceAgrees (s : State) : Prop :=
  match s.slice with
  | none => True
  | some p =>
    s.status.fault = false ∧ p.first = firstStop s ∧ p.tFirst = holdTime s p.first
    ∧ p.tSecond = holdTime s (otherUnit p.first)
    ∧ (p.last - p.t0).toNat < (if p.firstStopped then p.tSecond else p.tFirst).toNat
    ∧ SliceDrives s p .radiator ∧ SliceDrives s p .boiler

/-- The counter advances by `n` ticks before the next reading of a SLICE in progress and leaves the inputs
`rest`: by the ticks that stand first, or, where a host access or nothing stands first, by a free number,
with every input left where it is (R110, R412; notes/assumptions/4.md). -/
abbrev ReadingAdvances (s : State) (n : Nat) (rest : List Input) : Prop :=
  s.inputs = .ticks n :: rest
  ∨ (rest = s.inputs ∧ n = (Config.freeClockAdvance s.clockReads).toNat
      ∧ (s.inputs = [] ∨ ∃ a l, s.inputs = .access a :: l))

/-- TripOut: the full-range Down output of a unit (R306). -/
abbrev fullRangeDown (d : DirPol) (p : RegParams) : Int :=
  match d with
  | .posUp => p.outMin
  | .posDown => -p.outMax

/-- STATUS.FOUND stands only for a session without error (R33, R222). -/
abbrev FoundAgrees (s : State) : Prop := s.status.found = true → s.search.errCode = .ok

/-- The invariant every step keeps. -/
structure Inv (s : State) : Prop where
  port : PortIsComplement s
  faultCode : FaultCodeAgrees s
  regulator0 : RegulatorBounded s.cfg.reg0 s.reg0
  regulator1 : RegulatorBounded s.cfg.reg1 s.reg1
  output0 : OutputBounded s.cfg.frame0.dirPol s.cfg.reg0 s.frame0
  output1 : OutputBounded s.cfg.frame1.dirPol s.cfg.reg1 s.frame1
  failCount0 : FailCountAgrees s.cfg.frame0 s.frame0
  failCount1 : FailCountAgrees s.cfg.frame1 s.frame1
  search : SearchAgrees s.cfg s.search
  found : FoundAgrees s
  inputs : InputsAreReadings s
  slice : SliceAgrees s

/-- The table of R441: every register of the block has its reset value for the configuration `c`. -/
structure HasResetValues (c : Config) (s : State) : Prop where
  cfg : s.cfg = c
  res : s.res = 0#32
  status : statusWord s.status = 0#32
  addrIn : s.addrIn = 0#64
  addrOut : s.addrOut = 0#64
  visited : s.search.visited = 0#32
  errCode : s.search.errCode = .ok
  exhausted : s.search.exhausted = false
  errBytePos : s.search.errBytePos = 0#3
  errBitMask : s.search.errBitMask = 0#8
  crcAcc : s.crcAcc = 0#8
  regulators : ∀ u, (s.reg u).target = 0#32 ∧ (s.reg u).prevInput = 0#16
    ∧ (s.reg u).havePrev = false ∧ (s.reg u).integral = 0#32 ∧ (s.reg u).deriv = 0#32
    ∧ (s.reg u).lastOut = 0#32
  frames : ∀ u, (s.frame u).failCount = 0#8 ∧ (s.frame u).casOut = 0#32
    ∧ (s.frame u).casTarget = 0#32 ∧ (s.frame u).tripped = false ∧ (s.frame u).lastTicks = 0#8
  current0 : (s.current .radiator).toInt = c.rad.feedInit
  feed : s.rad.feed.toInt = c.rad.feedInit
  indoor : s.rad.indoor.toInt = c.rad.indoorDefault
  outdoor : s.rad.outdoor.toInt = c.rad.outdoorDefault
  freshFeed : s.rad.freshFeed = false
  current1 : (s.current .boiler).toInt = c.boil.inletSentinel
  inlet : s.boil.inlet.toInt = c.boil.inletSentinel
  outlet : s.boil.outlet.toInt = c.boil.outletInit
  flue : s.boil.flue = 0#16 ∧ s.boil.flueValid = false
  avg : s.boil.avg = 0#16 ∧ s.boil.avgValid = false
  boilerFlags : s.boil.freshIn = false ∧ s.boil.freshOut = false ∧ s.boil.pumpOn = false
    ∧ s.boil.guard = false
  act : s.act = 0x00#8
  port : s.port = 0xFF#8

/-- The opcode of a command (R145). -/
def opcodeOf : Instr → BitVec 8
  | .nop => 0x00#8
  | .srchStart => 0x01#8
  | .srchNext => 0x02#8
  | .crcClr => 0x08#8
  | .crcByte _ => 0x09#8
  | .crcAddr => 0x0A#8
  | .decSensor _ => 0x10#8
  | .decTc _ => 0x11#8
  | .regSettgt _ _ => 0x20#8
  | .regStep _ _ => 0x21#8
  | .regReset _ => 0x22#8
  | .casSensor _ _ => 0x30#8
  | .casStep _ => 0x31#8
  | .casGetout _ => 0x32#8
  | .casGetabs _ => 0x33#8
  | .actSet _ => 0x40#8
  | .actClr _ => 0x41#8
  | .slice => 0x42#8

/-- The UNIT field of a command's word (R141, R143): 0 where the command takes no unit. -/
def unitOf : Instr → BitVec 2
  | .regSettgt .boiler _ | .regStep .boiler _ | .regReset .boiler | .casSensor .boiler _
  | .casStep .boiler | .casGetout .boiler | .casGetabs .boiler => 1#2
  | .regSettgt .radiator _ | .regStep .radiator _ | .regReset .radiator | .casSensor .radiator _
  | .casStep .radiator | .casGetout .radiator | .casGetabs .radiator => 0#2
  | .nop | .srchStart | .srchNext | .crcClr | .crcByte _ | .crcAddr | .decSensor _ | .decTc _
  | .actSet _ | .actClr _ | .slice => 0#2

/-- The IMM field of a command's word (R142): `byte` and `bit` in its lowest bits, 0 where the row
requires 0. -/
def immOf : Instr → BitVec 16
  | .crcByte byte => 0#8 ++ byte
  | .decSensor raw | .decTc raw => raw
  | .regSettgt _ v | .regStep _ v | .casSensor _ v => v
  | .actSet bit | .actClr bit => 0#13 ++ bit
  | .nop | .srchStart | .srchNext | .crcClr | .crcAddr | .regReset _ | .casStep _ | .casGetout _
  | .casGetabs _ | .slice => 0#16

/-- The offsets of the host window that are mapped (R103): 0x000 to 0x028 and the two unit windows, every
fourth one. -/
abbrev mappedOffset (o : Nat) : Prop :=
  o % 4 = 0 ∧ (o ≤ 0x28 ∨ (0x40 ≤ o ∧ o ≤ 0x74) ∨ (0x80 ≤ o ∧ o ≤ 0xB4))

/-- The offsets the host may write (R105): CMD, ADDR_IN_LO, ADDR_IN_HI. -/
abbrev writableOffset (o : Nat) : Prop := o = 0x000 ∨ o = 0x00C ∨ o = 0x010

/-- The state a command leaves; the state itself where it has none. -/
def after (i : Instr) (s : State) : State :=
  match exec i s with
  | .next t => t
  | _ => s

/-- The states that `n` issues of one command leave, one after the other. -/
def issues (i : Instr) : Nat → State → List State
  | 0, _ => []
  | n + 1, s => after i s :: issues i n (after i s)

/-- The state a list of commands leaves, issued in order. -/
def issueAll (l : List Instr) (s : State) : State := l.foldl (fun t i => after i t) s

/-- The values of a trace's port writes, latest first. -/
def portWrites (tr : List Event) : List Byte :=
  tr.filterMap (fun e => match e with
    | .portWrite v => some v
    | _ => none)

/-- How many bus resets a record of events holds (R471). -/
def busResets (tr : List Event) : Nat :=
  tr.countP (fun e => match e with
    | .busReset _ => true
    | _ => false)

/-- How many read slots a record of events holds (R471). -/
def busReads (tr : List Event) : Nat :=
  tr.countP (fun e => match e with
    | .busRead _ => true
    | _ => false)

/-- How many write slots a record of events holds (R471). -/
def busWrites (tr : List Event) : Nat :=
  tr.countP (fun e => match e with
    | .busWrite _ => true
    | _ => false)

/-- How many collisions, pairs (0, 0), stand before position `p` of a walk's sample pairs (R227). -/
def collisionsBefore (pairs : List (Bool × Bool)) (p : Nat) : Nat :=
  (pairs.take p).count (false, false)

/-- The bit a walk chooses at position `p` for the samples `(a, b)`: forced, or the branch VISITED names
for the collision's ordinal (R225, R227). -/
def chosenBit (visited : BitVec 32) (pairs : List (Bool × Bool)) (p : Nat) (a b : Bool) : Bool :=
  if a = false ∧ b = false then visited.getLsbD (collisionsBefore pairs p) else a

/-- The answers a transport gives for a list of sample pairs. -/
def answersOf (pairs : List (Bool × Bool)) : List Bool := pairs.flatMap (fun q => [q.1, q.2])

end Sys2Proof.Safety
end

