-- ==== Sys2Proof/Certificates/Slice0/Obligations.lean ====
section
/-! DEFINITION. The statements for the provers. Each quantifies over every configuration its hypotheses
allow (`s.cfg.wf`, R15); none rests on the example configuration of `State.reset`, but the two that name
`State.reset` itself. The block has no memory (R100): a frame is a record update that names every register
and every interface that may change. -/

open Sys2Proof Sys2Proof.Machine Sys2Proof.Safety

/-! ### Encoding -/

/-- R140 to R145: for every row of the opcode map one word, written out field by field, decodes to its
command (among them vectors E1 to E3, E5 to E7, E15 and E20 of 95_test_vectors.md). -/
def Obligations.SampleWordsDecode : Prop :=
  decode 0x00000000#32 = .ok .nop
  ∧ decode 0x00000001#32 = .ok .srchStart
  ∧ decode 0x00000002#32 = .ok .srchNext
  ∧ decode 0x00000008#32 = .ok .crcClr
  ∧ decode 0x00FF0009#32 = .ok (.crcByte 0xFF#8)
  ∧ decode 0x0000000A#32 = .ok .crcAddr
  ∧ decode 0xFFFF0010#32 = .ok (.decSensor 0xFFFF#16)
  ∧ decode 0x7FF80011#32 = .ok (.decTc 0x7FF8#16)
  ∧ decode 0x02F00120#32 = .ok (.regSettgt .boiler 752#16)
  ∧ decode 0x02D00021#32 = .ok (.regStep .radiator 720#16)
  ∧ decode 0x00000122#32 = .ok (.regReset .boiler)
  ∧ decode 0x80000130#32 = .ok (.casSensor .boiler 0x8000#16)
  ∧ decode 0x00000031#32 = .ok (.casStep .radiator)
  ∧ decode 0x00000132#32 = .ok (.casGetout .boiler)
  ∧ decode 0x00000033#32 = .ok (.casGetabs .radiator)
  ∧ decode 0x00070040#32 = .ok (.actSet 7#3)
  ∧ decode 0x00020041#32 = .ok (.actClr 2#3)
  ∧ decode 0x00000042#32 = .ok .slice

/-- Decode and encode agree: every command, with every operand, is read back from its word. -/
def Obligations.DecodeReadsBackEveryEncoding : Prop := ∀ i : Instr, decode (encode i) = .ok i

/-- Each command has one word, and its fields are those of R141 to R145: a word that decodes is the
encoding of what it decodes to, and is IMM, six reserved 0 bits, UNIT and the opcode of its row. -/
def Obligations.DecodableWordIsItsEncoding : Prop :=
  ∀ (w : Word) (i : Instr), decode w = .ok i →
    encode i = w ∧ w = immOf i ++ 0#6 ++ unitOf i ++ opcodeOf i

/-- R146, and R148, the spec's own inference from R145: a word is a command exactly when it matches a row
of the match and mask table, and then exactly one row. -/
def Obligations.DecodeAcceptsExactlyTheTableRows : Prop :=
  ∀ w : Word,
    ((∃ i, decode w = .ok i) ↔ ∃ row ∈ matchMaskRows, w &&& row.2 = row.1)
    ∧ matchMaskRows.countP (fun row => w &&& row.2 == row.1) ≤ 1

/-! ### One step: issuing commands, host accesses, faults, reset -/

/-- R183: a 32-bit write of a command word to CMD on a block that is not faulted and runs no SLICE
performs the decoded command, with the access consumed (the list of accesses to come is the model's,
notes/assumptions/5.md). -/
def Obligations.StepRunsTheDecodedCommand : Prop :=
  ∀ (s : State) (w : Word) (i : Instr) (rest : List Input),
    s.cfg.wf = true → s.slice = none → s.status.fault = false →
    s.inputs = .access (.write 32 0x000 w) :: rest → decode w = .ok i →
      step s = exec i { s with inputs := rest }

/-- R140, R183, and the model's choice of how a command is placed (notes/assumptions/5.md): the very next
step after `withFetchWord` performs the placed command. -/
def Obligations.PlacedWordRunsNext : Prop :=
  ∀ (s : State) (w : Nat) (i : Instr),
    s.cfg.wf = true → s.status.fault = false → decodeTableWord 32 w = some i →
      step (s.withFetchWord 32 w) = exec i { s with slice := none }

/-- R402, R401: a CMD write of a word outside the 18 rows sets FAULT with code IllegalCommand and changes
nothing else. -/
def Obligations.WordOutsideTheTableRaisesIllegalCommand : Prop :=
  ∀ (s : State) (w : Word) (rest : List Input),
    s.cfg.wf = true → s.slice = none → s.status.fault = false →
    s.inputs = .access (.write 32 0x000 w) :: rest →
    (∀ row ∈ matchMaskRows, w &&& row.2 ≠ row.1) →
      step s = .next { s with
        inputs := rest,
        status := { s.status with fault := true, faultCode := .illegalCommand } }

/-- R403: a host access of a wrong width, at a misaligned or unmapped offset, a write to a read-only word,
or a read of CMD raises AccessFault, keeping the first fault's code (R401); the write changes nothing and
the read returns 0. -/
def Obligations.AccessToNoWordRaisesAccessFault : Prop :=
  (∀ (s : State) (width offset : Nat) (rest : List Input),
    s.cfg.wf = true → s.slice = none → s.inputs = .access (.read width offset) :: rest →
    (width ≠ 32 ∨ ¬ mappedOffset offset ∨ offset = 0x000) →
      step s = .next { s with
        inputs := rest,
        readData := 0#32,
        status := { s.status with
          fault := true,
          faultCode := if s.status.fault then s.status.faultCode else .accessFault } })
  ∧ ∀ (s : State) (width offset : Nat) (v : Word) (rest : List Input),
    s.cfg.wf = true → s.slice = none → s.inputs = .access (.write width offset v) :: rest →
    (width ≠ 32 ∨ ¬ writableOffset offset) →
      step s = .next { s with
        inputs := rest,
        status := { s.status with
          fault := true,
          faultCode := if s.status.fault then s.status.faultCode else .accessFault } }

/-- R106, R181: a 32-bit read of a mapped word other than CMD succeeds, faulted block or not, returns that
word's contents (R103, stated field by field by InterfaceWordsReadTheirFields and
UnitWindowsReadTheirFields), and changes nothing but the word it returns. -/
def Obligations.MappedReadHasNoSideEffect : Prop :=
  ∀ (s : State) (offset : Nat) (rest : List Input),
    s.cfg.wf = true → s.slice = none → s.inputs = .access (.read 32 offset) :: rest →
    mappedOffset offset → offset ≠ 0x000 →
      ∃ v, readWord 32 offset s = some v
        ∧ step s = .next { s with inputs := rest, readData := v }

/-- R103: what the interface words read as, field by field. -/
def Obligations.InterfaceWordsReadTheirFields : Prop :=
  ∀ s : State,
    readWord 32 0x004 s = some s.res
    ∧ (∃ v, readWord 32 0x008 s = some v ∧ v.getLsbD 0 = s.status.fault
        ∧ v.extractLsb' 4 4 = faultCodeBits s.status.faultCode ∧ v.getLsbD 8 = s.status.found
        ∧ v.getLsbD 9 = s.status.crcOk ∧ v.getLsbD 10 = s.status.valid
        ∧ v.extractLsb' 1 3 = 0#3 ∧ v.extractLsb' 11 21 = 0#21)
    ∧ (∃ lo hi, readWord 32 0x00C s = some lo ∧ readWord 32 0x010 s = some hi ∧ hi ++ lo = s.addrIn)
    ∧ (∃ lo hi, readWord 32 0x014 s = some lo ∧ readWord 32 0x018 s = some hi ∧ hi ++ lo = s.addrOut)
    ∧ (∃ v, readWord 32 0x01C s = some v
        ∧ ∀ j < 32, v.getLsbD j = (decide (j < s.cfg.searchCap) && s.search.visited.getLsbD j))
    ∧ (∃ v, readWord 32 0x020 s = some v ∧ v.extractLsb' 0 3 = errCodeBits s.search.errCode
        ∧ v.getLsbD 3 = s.search.exhausted ∧ v.extractLsb' 8 3 = s.search.errBytePos
        ∧ v.extractLsb' 16 8 = s.search.errBitMask ∧ v.extractLsb' 4 4 = 0#4
        ∧ v.extractLsb' 11 5 = 0#5 ∧ v.extractLsb' 24 8 = 0#8)
    ∧ readWord 32 0x024 s = some (s.crcAcc.zeroExtend 32)
    ∧ (∃ v, readWord 32 0x028 s = some v ∧ v.extractLsb' 0 8 = s.act ∧ v.extractLsb' 8 8 = s.port
        ∧ v.extractLsb' 16 16 = 0#16)

/-- R103: what the words of the two unit windows read as, field by field, the other bits 0. -/
def Obligations.UnitWindowsReadTheirFields : Prop :=
  ∀ (s : State) (u : UnitId) (base : Nat),
    base = (match u with
      | .radiator => 0x040
      | .boiler => 0x080) →
      readWord 32 base s = some (s.reg u).target
      ∧ (∃ v, readWord 32 (base + 0x04) s = some v ∧ v.extractLsb' 0 16 = (s.reg u).prevInput
          ∧ v.getLsbD 16 = (s.reg u).havePrev ∧ v.extractLsb' 17 15 = 0#15)
      ∧ readWord 32 (base + 0x08) s = some (s.reg u).integral
      ∧ readWord 32 (base + 0x0C) s = some (s.reg u).deriv
      ∧ readWord 32 (base + 0x10) s = some (s.reg u).lastOut
      ∧ (∃ v, readWord 32 (base + 0x14) s = some v ∧ v.extractLsb' 0 8 = (s.frame u).failCount
          ∧ v.extractLsb' 8 8 = (s.frame u).lastTicks ∧ v.extractLsb' 16 16 = 0#16)
      ∧ (∃ v, readWord 32 (base + 0x18) s = some v ∧ v.toInt = (s.current u).toInt)
      ∧ readWord 32 (base + 0x1C) s = some (s.frame u).casOut
      ∧ readWord 32 (base + 0x20) s = some (s.frame u).casTarget
      ∧ (∃ flags, readWord 32 (base + 0x24) s = some flags
          ∧ flags.getLsbD 0 = (s.frame u).tripped ∧ flags.extractLsb' 7 25 = 0#25
          ∧ match u with
            | .radiator => flags.getLsbD 1 = s.rad.freshFeed ∧ flags.extractLsb' 2 5 = 0#5
            | .boiler =>
              flags.getLsbD 1 = s.boil.freshIn ∧ flags.getLsbD 2 = s.boil.freshOut
              ∧ flags.getLsbD 3 = s.boil.flueValid ∧ flags.getLsbD 4 = s.boil.avgValid
              ∧ flags.getLsbD 5 = s.boil.pumpOn ∧ flags.getLsbD 6 = s.boil.guard)
      ∧ (∃ a0 a1 a2 a3, readWord 32 (base + 0x28) s = some a0 ∧ readWord 32 (base + 0x2C) s = some a1
          ∧ readWord 32 (base + 0x30) s = some a2 ∧ readWord 32 (base + 0x34) s = some a3
          ∧ match u with
            | .radiator =>
              a0.toInt = s.rad.indoor.toInt ∧ a1.toInt = s.rad.outdoor.toInt ∧ a2 = 0#32 ∧ a3 = 0#32
            | .boiler =>
              a0.toInt = s.boil.inlet.toInt ∧ a1.toInt = s.boil.outlet.toInt
              ∧ a2.toInt = s.boil.flue.toInt ∧ a3.toInt = s.boil.avg.toInt)

/-- R104: a write to ADDR_IN_LO or ADDR_IN_HI of a block that is not faulted replaces that half of ADDR_IN
and nothing else. -/
def Obligations.AddrInWritesReplaceOneHalf : Prop :=
  ∀ (s : State) (v : Word) (rest : List Input),
    s.cfg.wf = true → s.slice = none → s.status.fault = false →
      (s.inputs = .access (.write 32 0x00C v) :: rest →
        ∃ a, step s = .next { s with inputs := rest, addrIn := a }
          ∧ a.extractLsb' 0 32 = v ∧ a.extractLsb' 32 32 = s.addrIn.extractLsb' 32 32)
      ∧ (s.inputs = .access (.write 32 0x010 v) :: rest →
        ∃ a, step s = .next { s with inputs := rest, addrIn := a }
          ∧ a.extractLsb' 32 32 = v ∧ a.extractLsb' 0 32 = s.addrIn.extractLsb' 0 32)

/-- R406: while FAULT = 1 a write to a writable word is accepted and does nothing. -/
def Obligations.FaultedBlockRefusesWrites : Prop :=
  ∀ (s : State) (offset : Nat) (v : Word) (rest : List Input),
    s.cfg.wf = true → s.slice = none → s.status.fault = true →
    s.inputs = .access (.write 32 offset v) :: rest → writableOffset offset →
      step s = .next { s with inputs := rest }

/-- R408, R406: the faulted state and its first code are left by no step but a reset; and no register
changes while the block is faulted (the host's read data, the counter and the inputs do). -/
def Obligations.OnlyResetLeavesTheFaultedState : Prop :=
  ∀ s t : State,
    s.status.fault = true → s.slice = none → (∀ rest, s.inputs ≠ .reset :: rest) →
    step s = .next t →
      t = { s with inputs := t.inputs, clock := t.clock, readData := t.readData }

/-- R441: every register's value after reset, for every well-formed configuration; and the example
configuration that `State.reset` carries is one (DESIGN CHOICE, notes/assumptions/1.md). -/
def Obligations.ResetLeavesTheTableOfResetValues : Prop :=
  (∀ c : Config, c.wf = true → HasResetValues c (State.resetWith c))
  ∧ Config.d50.wf = true ∧ State.reset = State.resetWith Config.d50

/-- R441, R440: a reset, in the middle of a SLICE or not, gives every register of the block its reset
value, abandons the command and writes the port once with 0xFF; the configuration and the transport are
not reset. That the counter, whose value at reset R46 leaves unspecified, is left as it is, and that the
word of the last read and the number of readings are, are the model's choices (DESIGN CHOICE,
notes/assumptions/2.md and notes/assumptions/10.md). -/
def Obligations.ResetInputRestoresEveryRegister : Prop :=
  ∀ (s : State) (rest : List Input),
    s.cfg.wf = true → s.inputs = .reset :: rest →
      ∃ t, step s = .next t ∧ HasResetValues s.cfg t ∧ t.slice = none
        ∧ t.clock = s.clock ∧ t.bus = s.bus ∧ t.inputs = rest ∧ t.clockReads = s.clockReads
        ∧ t.readData = s.readData ∧ t.trace = .portWrite 0xFF#8 :: s.trace

/-- R418, R110: with no command in progress and no access made, the block is idle and keeps its state. -/
def Obligations.IdleBlockKeepsItsState : Prop :=
  ∀ s : State, s.cfg.wf = true → s.slice = none → s.inputs = [] → step s = .next s

/-- R15, U7: an ill-formed configuration is refused (that the refusal is the step's is the model's choice,
notes/assumptions/13.md). -/
def Obligations.IllFormedConfigurationIsRefused : Prop :=
  ∀ s : State, s.cfg.wf = false → step s = .refused .illFormedConfiguration

/-- R400, R405: no command faults once it has begun: every command answers a next state with FAULT,
FAULT_CODE, the configuration and ADDR_IN as they were. -/
def Obligations.NoCommandFaultsOnceBegun : Prop :=
  ∀ (i : Instr) (s : State),
    ∃ t, exec i s = .next t ∧ t.status.fault = s.status.fault
      ∧ t.status.faultCode = s.status.faultCode ∧ t.cfg = s.cfg ∧ t.addrIn = s.addrIn

/-! ### System, codec and CRC8 -/

/-- R180: NOP changes no state. -/
def Obligations.NopChangesNothing : Prop := ∀ s : State, exec .nop s = .next s

/-- R192, R191: DEC_SENSOR writes RES and STATUS.VALID and nothing else: the reading itself when it lies
in the configured range, INVALID otherwise. -/
def Obligations.SensorReadingDecodes : Prop :=
  ∀ (s : State) (raw : BitVec 16), s.cfg.wf = true →
    ∃ t, exec (.decSensor raw) s = .next t
      ∧ t = { s with res := t.res, status := { s.status with valid := t.status.valid } }
      ∧ (s.cfg.sensorMin ≤ raw.toInt ∧ raw.toInt ≤ s.cfg.sensorMax →
          t.res.toInt = raw.toInt ∧ t.status.valid = true)
      ∧ (raw.toInt < s.cfg.sensorMin ∨ s.cfg.sensorMax < raw.toInt →
          t.res.toInt = -32768 ∧ t.status.valid = false)

/-- R194, R193: DEC_TC writes RES and STATUS.VALID and nothing else: four times the count `raw[14:3]`, at
most 16380, unless `raw[15]` or the open-input flag `raw[2]` is 1. -/
def Obligations.ThermocoupleReadingDecodes : Prop :=
  ∀ (s : State) (raw : BitVec 16),
    ∃ t, exec (.decTc raw) s = .next t
      ∧ t = { s with res := t.res, status := { s.status with valid := t.status.valid } }
      ∧ (raw.getLsbD 15 = true ∨ raw.getLsbD 2 = true →
          t.res.toInt = -32768 ∧ t.status.valid = false)
      ∧ (raw.getLsbD 15 = false ∧ raw.getLsbD 2 = false →
          t.res.toNat = 4 * (raw.toNat / 8) ∧ t.res.toNat ≤ 16380 ∧ t.status.valid = true)

/-- R197: CRC_CLR clears the accumulator and nothing else. -/
def Obligations.CrcClrClearsTheAccumulator : Prop :=
  ∀ s : State, exec .crcClr s = .next { s with crcAcc := 0#8 }

/-- R198: CRC_BYTE accumulates one byte and returns the accumulator; from a cleared one it gives the four
values the rule works out. -/
def Obligations.CrcByteAccumulatesOneByte : Prop :=
  (∀ (s : State) (b : BitVec 8), ∃ c : Byte,
    exec (.crcByte b) s = .next { s with crcAcc := c, res := c.zeroExtend 32 }
    ∧ c = crc8Step s.crcAcc b)
  ∧ crc8Step 0#8 0#8 = 0#8 ∧ crc8Step 0#8 0x01#8 = 0x5E#8 ∧ crc8Step 0#8 0x80#8 = 0x8C#8
  ∧ crc8Step 0#8 0xFF#8 = 0x35#8 ∧ crc8Step 0#8 0x02#8 = 0xBC#8

/-- R199: CRC_ADDR leaves the CRC of `A[0..6]` in the accumulator and says in CRC_OK and RES whether it is
`A[7]`; the accumulator's old value does not matter. -/
def Obligations.CrcAddrValidatesTheAddress : Prop :=
  ∀ s : State, ∃ (c : Byte) (ok : Bool),
    exec .crcAddr s = .next { s with
      crcAcc := c, res := if ok then 1#32 else 0#32, status := { s.status with crcOk := ok } }
    ∧ c = crc8 [s.addrIn.extractLsb' 0 8, s.addrIn.extractLsb' 8 8, s.addrIn.extractLsb' 16 8,
        s.addrIn.extractLsb' 24 8, s.addrIn.extractLsb' 32 8, s.addrIn.extractLsb' 40 8,
        s.addrIn.extractLsb' 48 8]
    ∧ (ok = true ↔ c = s.addrIn.extractLsb' 56 8)

/-- R200, the spec's own inference from R196: bytes followed by their CRC have CRC 0; so a run of CRC_BYTE
from a cleared accumulator over a payload and one more byte leaves CRC_ACC = 0 exactly when that byte is
the payload's CRC. -/
def Obligations.CrcResidueIsZeroExactlyOnAMatch : Prop :=
  (∀ bytes : List Byte, crc8 (bytes ++ [crc8 bytes]) = 0#8)
  ∧ ∀ (s : State) (bytes : List Byte) (c : Byte), s.crcAcc = 0#8 →
      ((issueAll ((bytes ++ [c]).map Instr.crcByte) s).crcAcc = 0#8 ↔ c = crc8 bytes)

/-- R201, the spec's own inference from R196: an address with its right CRC byte validates, and flipping
any single one of its 64 bits makes CRC_ADDR fail. -/
def Obligations.CrcAddrDetectsEverySingleBitFlip : Prop :=
  ∀ (s : State) (a : DeviceAddress) (i : Nat),
    crc8 (addrPayload a) = addrByte a 7 → i < 64 →
      (∃ t, exec .crcAddr { s with addrIn := a } = .next t ∧ t.res = 1#32 ∧ t.status.crcOk = true)
      ∧ ∃ t, exec .crcAddr { s with addrIn := a ^^^ BitVec.twoPow 64 i } = .next t
          ∧ t.res = 0#32 ∧ t.status.crcOk = false

/-! ### BusSearchEngine -/

/-- R221: SRCH_START clears the SearchState to a live empty session and FOUND, and changes nothing
else. -/
def Obligations.SrchStartBeginsALiveSession : Prop :=
  ∀ s : State, exec .srchStart s = .next { s with
    search := { visited := 0#32, errCode := .ok, exhausted := false, errBytePos := 0#3,
                errBitMask := 0#8 },
    status := { s.status with found := false } }

/-- R223: SRCH_NEXT on an aborted or finished session writes FOUND = 0 and RES = 0 and nothing else; it
makes no bus access. -/
def Obligations.SrchNextOnADeadSessionDoesNothing : Prop :=
  ∀ s : State, s.search.errCode ≠ .ok ∨ s.search.exhausted = true →
    exec .srchNext s = .next { s with res := 0#32, status := { s.status with found := false } }

/-- R224, R222 (the transport's answers are notes/assumptions/3.md's): on a live session with no device
answering, the call ends with ResetFailed and no further error state after one bus reset, with ADDR_OUT
cleared; nothing else changes. -/
def Obligations.SrchNextWithoutPresenceFails : Prop :=
  ∀ s : State,
    s.search.errCode = .ok → s.search.exhausted = false → (transportReset s.bus).bit = false →
      exec .srchNext s = .next { s with
        addrOut := 0#64, res := 0#32, status := { s.status with found := false },
        search := { s.search with errCode := .resetFailed, errBytePos := 0#3, errBitMask := 0#8 },
        bus := (transportReset s.bus).bus, trace := .busReset false :: s.trace }

/-- R225, R228, R229: a call on a live session whose walk meets no (1, 1) pair and no more than SEARCH_CAP
collisions. Each address bit is the forced bit or the branch VISITED names for the collision's ordinal,
written back to the bus and stored; then the CRC decides, and on a match VISITED is updated and EXHAUSTED
set exactly when it is 0. Nothing else changes but the model's record of the slots
(notes/assumptions/10.md). -/
def Obligations.SrchNextWalkResolvesAnAddress : Prop :=
  ∀ (s : State) (pairs : List (Bool × Bool)) (rest : List Bool) (n : Nat),
    s.cfg.wf = true → s.search.errCode = .ok → s.search.exhausted = false →
    s.bus = .oracle (true :: answersOf pairs ++ rest) n →
    pairs.length = 64 → (true, true) ∉ pairs → pairs.count (false, false) ≤ s.cfg.searchCap →
      ∃ t, exec .srchNext s = .next t
        ∧ t = { s with addrOut := t.addrOut, res := t.res,
                       status := { s.status with found := t.status.found },
                       search := t.search, bus := .oracle rest (n + 129), trace := t.trace }
        ∧ (∀ p a b, pairs[p]? = some (a, b) →
            t.addrOut.getLsbD p = chosenBit s.search.visited pairs p a b)
        ∧ t.trace =
            ((List.range 64).flatMap (fun p =>
              [.busRead (pairs.getD p (false, false)).1, .busRead (pairs.getD p (false, false)).2,
               .busWrite (t.addrOut.getLsbD p)])).reverse
            ++ ((List.range 8).map (fun i => Event.busWrite (s.cfg.searchRomCmd.getLsbD i))).reverse
            ++ .busReset true :: s.trace
        ∧ (crc8 (addrPayload t.addrOut) ≠ addrByte t.addrOut 7 →
            t.res = 0#32 ∧ t.status.found = false
            ∧ t.search = { s.search with errCode := .crcMismatch, errBytePos := 0#3,
                                         errBitMask := 0#8 })
        ∧ (crc8 (addrPayload t.addrOut) = addrByte t.addrOut 7 →
            t.res = 1#32 ∧ t.status.found = true
            ∧ t.search = { s.search with visited := t.search.visited,
                                         exhausted := t.search.exhausted }
            ∧ (t.search.exhausted = true ↔ t.search.visited = 0#32)
            ∧ ((∀ k < pairs.count (false, false), s.search.visited.getLsbD k = true) →
                t.search.visited = 0#32)
            ∧ ∀ m < pairs.count (false, false), s.search.visited.getLsbD m = false →
                (∀ k, m < k → k < pairs.count (false, false) → s.search.visited.getLsbD k = true) →
                  t.search.visited.toNat = s.search.visited.toNat % 2 ^ m + 2 ^ m)

/-- R226: both samples 1 at position `p` end the call at once with BusConflict1 and the record of `p`;
ADDR_OUT keeps the bits chosen before it and 0 above; VISITED is unchanged and bit `p` is not written. -/
def Obligations.BothSamplesOneAbortsTheSession : Prop :=
  ∀ (s : State) (pairs : List (Bool × Bool)) (rest : List Bool) (n : Nat),
    s.cfg.wf = true → s.search.errCode = .ok → s.search.exhausted = false →
    s.bus = .oracle (true :: answersOf pairs ++ true :: true :: rest) n →
    pairs.length < 64 → (true, true) ∉ pairs → pairs.count (false, false) ≤ s.cfg.searchCap →
      ∃ t, exec .srchNext s = .next t
        ∧ t = { s with addrOut := t.addrOut, res := 0#32,
                       status := { s.status with found := false },
                       search := { s.search with errCode := .busConflict1,
                                                 errBytePos := t.search.errBytePos,
                                                 errBitMask := t.search.errBitMask },
                       bus := .oracle rest (n + 2 * pairs.length + 3), trace := t.trace }
        ∧ t.search.errBytePos.toNat = pairs.length / 8
        ∧ t.search.errBitMask.toNat = 2 ^ (pairs.length % 8)
        ∧ t.trace.take 2 = [.busRead true, .busRead true]
        ∧ (∀ p a b, pairs[p]? = some (a, b) →
            t.addrOut.getLsbD p = chosenBit s.search.visited pairs p a b)
        ∧ (∀ p, pairs.length ≤ p → t.addrOut.getLsbD p = false)

/-- R227: a collision beyond the capacity of VISITED ends the call with BusConflict0 and the record of its
position; bit `p` is neither written nor stored. -/
def Obligations.CollisionBeyondCapacityAbortsTheSession : Prop :=
  ∀ (s : State) (pairs : List (Bool × Bool)) (rest : List Bool) (n : Nat),
    s.cfg.wf = true → s.search.errCode = .ok → s.search.exhausted = false →
    s.bus = .oracle (true :: answersOf pairs ++ false :: false :: rest) n →
    pairs.length < 64 → (true, true) ∉ pairs → pairs.count (false, false) = s.cfg.searchCap →
      ∃ t, exec .srchNext s = .next t
        ∧ t = { s with addrOut := t.addrOut, res := 0#32,
                       status := { s.status with found := false },
                       search := { s.search with errCode := .busConflict0,
                                                 errBytePos := t.search.errBytePos,
                                                 errBitMask := t.search.errBitMask },
                       bus := .oracle rest (n + 2 * pairs.length + 3), trace := t.trace }
        ∧ t.search.errBytePos.toNat = pairs.length / 8
        ∧ t.search.errBitMask.toNat = 2 ^ (pairs.length % 8)
        ∧ t.trace.take 2 = [.busRead false, .busRead false]
        ∧ (∀ p a b, pairs[p]? = some (a, b) →
            t.addrOut.getLsbD p = chosenBit s.search.visited pairs p a b)
        ∧ (∀ p, pairs.length ≤ p → t.addrOut.getLsbD p = false)

/-- R471, the spec's own inference from R222: whatever the transport answers, a SRCH_NEXT makes at most 1
bus reset and, with the 8 slots of the command byte, at most 128 read slots and 72 write slots (so 192 bit
slots), touches nothing else outside, and changes nothing but the search registers, RES and FOUND,
ADDR_OUT, the transport and the record of its slots. -/
def Obligations.SrchNextMakesBoundedBusTraffic : Prop :=
  ∀ s : State, ∃ t slots, exec .srchNext s = .next t
    ∧ t = { s with addrOut := t.addrOut, res := t.res,
                   status := { s.status with found := t.status.found }, search := t.search,
                   bus := t.bus, trace := slots ++ s.trace }
    ∧ busResets slots ≤ 1 ∧ busReads slots ≤ 128 ∧ busWrites slots ≤ 72
    ∧ slots.length = busResets slots + busReads slots + busWrites slots

/-- R230, the spec's own inference from R222 to R229: on the ideal bus, on which by the model's choice the
command byte selects no device (DESIGN CHOICE, notes/assumptions/12.md), holding K distinct addresses with
right CRC bytes, K - 1 at most SEARCH_CAP, the K calls after SRCH_START return the K addresses, each once,
in increasing order of the number whose most significant bit is address bit 0; the K-th leaves VISITED = 0
and EXHAUSTED = 1, and one more call does nothing. -/
def Obligations.IdealBusIsEnumerated : Prop :=
  ∀ (s : State) (b : IdealBus),
    s.cfg.wf = true → s.bus = .ideal b → b.devices ≠ [] → b.devices.Nodup →
    b.devices.length ≤ s.cfg.searchCap + 1 →
    (∀ d ∈ b.devices, crc8 (addrPayload d) = addrByte d 7) →
      let calls := issues .srchNext b.devices.length (after .srchStart s)
      (calls.map State.addrOut).Perm b.devices
      ∧ (calls.map State.addrOut).Pairwise (fun x y => x.reverse < y.reverse)
      ∧ (∀ t ∈ calls, t.res = 1#32 ∧ t.status.found = true)
      ∧ ∃ t, calls.getLast? = some t ∧ t.search.visited = 0#32 ∧ t.search.exhausted = true
          ∧ exec .srchNext t
              = .next { t with res := 0#32, status := { t.status with found := false } }

/-! ### RegulatorCore -/

/-- R264: REG_SETTGT sets the unit's TARGET to the signed immediate and nothing else. -/
def Obligations.RegSettgtSetsTheTarget : Prop :=
  ∀ (s : State) (u : UnitId) (v : BitVec 16),
    ∃ t, exec (.regSettgt u v) s = .next t
      ∧ t = s.setReg u { s.reg u with target := (t.reg u).target }
      ∧ (t.reg u).target.toInt = v.toInt

/-- R266: REG_RESET clears INTEGRAL, DERIV, LAST_OUT and HAVE_PREV of the unit and keeps the rest. -/
def Obligations.RegResetClearsTheDynamicState : Prop :=
  ∀ (s : State) (u : UnitId),
    ∃ t, exec (.regReset u) s = .next t ∧ t = s.setReg u (t.reg u)
      ∧ t.reg u = { target := (s.reg u).target, prevInput := (s.reg u).prevInput, havePrev := false,
                    integral := 0#32, deriv := 0#32, lastOut := 0#32 }

/-- R263, and RES by R265: REG_STEP of a well-formed configuration, in exact integers, case by case: the
large-error snap, the derivative short-circuit, and the normal law. It changes RES and the unit's
regulator only. -/
def Obligations.RegStepFollowsTheControlLaw : Prop :=
  ∀ (s : State) (u : UnitId) (cur : BitVec 16), s.cfg.wf = true →
    let p := s.cfg.reg u
    let r := s.reg u
    let err := cur.toInt - r.target.toInt
    let din := if r.havePrev then cur.toInt - r.prevInput.toInt else 0
    let d := Int.tdiv (r.deriv.toInt * (p.dSmooth - 1) + p.kd * din) p.dSmooth
    let half := Int.tdiv (p.outMax - p.outMin) 2
    ∃ t q, exec (.regStep u cur) s = .next t
      ∧ t = { s.setReg u q with res := t.res }
      ∧ q.target = r.target ∧ q.prevInput = cur ∧ q.havePrev = true ∧ q.lastOut = t.res
      ∧ (p.largeErr < err → t.res.toInt = p.outMax ∧ q.integral = r.integral ∧ q.deriv = r.deriv)
      ∧ (err < -p.largeErr →
          t.res.toInt = p.outMin ∧ q.integral = r.integral ∧ q.deriv = r.deriv)
      ∧ (-p.largeErr ≤ err → err ≤ p.largeErr →
          q.deriv.toInt = max (-p.dLimit) (min p.dLimit d)
          ∧ (half < d → t.res.toInt = p.outMax ∧ q.integral = r.integral)
          ∧ (d < -half → t.res.toInt = p.outMin ∧ q.integral = r.integral)
          ∧ (-half ≤ d → d ≤ half →
              q.integral.toInt
                = max (Int.tdiv p.outMin p.iClampDiv)
                    (min (Int.tdiv p.outMax p.iClampDiv)
                      (r.integral.toInt + Int.tdiv (p.ki * err) p.iDiv))
              ∧ ∃ y, y = max p.outMin
                    (min p.outMax (p.kp * err + q.integral.toInt + q.deriv.toInt))
                  ∧ t.res.toInt
                      = if p.outAvg then Int.tdiv (y + r.lastOut.toInt) 2 else y))

/-- R268, R269, the spec's own inferences from R263: a regulator whose INTEGRAL, DERIV and LAST_OUT lie in
their ranges keeps them there under REG_STEP, and the output lies in [OUT_MIN, OUT_MAX]. -/
def Obligations.RegStepKeepsItsRanges : Prop :=
  ∀ (s : State) (u : UnitId) (cur : BitVec 16),
    s.cfg.wf = true → RegulatorBounded (s.cfg.reg u) (s.reg u) →
      ∃ t, exec (.regStep u cur) s = .next t ∧ RegulatorBounded (s.cfg.reg u) (t.reg u)
        ∧ (s.cfg.reg u).outMin ≤ t.res.toInt ∧ t.res.toInt ≤ (s.cfg.reg u).outMax

/-- R268, the spec's own inference from R263: stepping a regulator any number of times with the same input
never drives INTEGRAL outside [I_MIN, I_MAX]. -/
def Obligations.RepeatedStepsKeepTheIntegralClamped : Prop :=
  ∀ (s : State) (u : UnitId) (cur : BitVec 16) (n : Nat),
    s.cfg.wf = true → integralMin (s.cfg.reg u) ≤ (s.reg u).integral.toInt →
    (s.reg u).integral.toInt ≤ integralMax (s.cfg.reg u) →
      ∀ t ∈ issues (.regStep u cur) n s,
        Int.tdiv (s.cfg.reg u).outMin (s.cfg.reg u).iClampDiv ≤ (t.reg u).integral.toInt
        ∧ (t.reg u).integral.toInt ≤ Int.tdiv (s.cfg.reg u).outMax (s.cfg.reg u).iClampDiv

/-! ### CascadeEngine -/

/-- R303, R301, R302, R311 for unit 0: CAS_SENSOR routes a reading by the address in ADDR_IN; no match
gives 0, an invalid or fault-signature reading 2, and a stored one 1; nothing but RES and the input
changes. -/
def Obligations.RadiatorReadingIsRouted : Prop :=
  ∀ (s : State) (v : BitVec 16), s.cfg.wf = true →
    let p := s.cfg.rad
    (s.addrIn ≠ p.feedAddr → s.addrIn ≠ p.indoorAddr → s.addrIn ≠ p.outdoorAddr →
      exec (.casSensor .radiator v) s = .next { s with res := 0#32 })
    ∧ (s.addrIn = p.feedAddr ∨ s.addrIn = p.indoorAddr ∨ s.addrIn = p.outdoorAddr →
        v.toInt = -32768 → exec (.casSensor .radiator v) s = .next { s with res := 2#32 })
    ∧ (v.toInt ≠ -32768 →
        (s.addrIn = p.feedAddr →
          (v.toInt = p.feedFaultValue ∧ s.rad.feed.toInt < p.feedFaultGuard →
            exec (.casSensor .radiator v) s = .next { s with res := 2#32 })
          ∧ (v.toInt ≠ p.feedFaultValue ∨ p.feedFaultGuard ≤ s.rad.feed.toInt →
            exec (.casSensor .radiator v) s
              = .next { s with res := 1#32,
                               rad := { s.rad with feed := v, freshFeed := true } }))
        ∧ (s.addrIn = p.indoorAddr →
            exec (.casSensor .radiator v) s
              = .next { s with res := 1#32, rad := { s.rad with indoor := v } })
        ∧ (s.addrIn = p.outdoorAddr →
            exec (.casSensor .radiator v) s
              = .next { s with res := 1#32, rad := { s.rad with outdoor := v } }))

/-- R303, R301, R302, R320 for unit 1: CAS_SENSOR routes a reading by the address in ADDR_IN; no match
gives 0, an invalid reading 2, and a stored one 1 with its input, fresh or valid flag; nothing else
changes. -/
def Obligations.BoilerReadingIsRouted : Prop :=
  ∀ (s : State) (v : BitVec 16), s.cfg.wf = true →
    let p := s.cfg.boil
    (s.addrIn ≠ p.inletAddr → s.addrIn ≠ p.outletAddr → s.addrIn ≠ p.flueAddr →
      exec (.casSensor .boiler v) s = .next { s with res := 0#32 })
    ∧ (s.addrIn = p.inletAddr ∨ s.addrIn = p.outletAddr ∨ s.addrIn = p.flueAddr →
        v.toInt = -32768 → exec (.casSensor .boiler v) s = .next { s with res := 2#32 })
    ∧ (v.toInt ≠ -32768 →
        (s.addrIn = p.inletAddr →
          exec (.casSensor .boiler v) s
            = .next { s with res := 1#32, boil := { s.boil with inlet := v, freshIn := true } })
        ∧ (s.addrIn = p.outletAddr →
            exec (.casSensor .boiler v) s
              = .next { s with res := 1#32, boil := { s.boil with outlet := v, freshOut := true } })
        ∧ (s.addrIn = p.flueAddr →
            exec (.casSensor .boiler v) s
              = .next { s with res := 1#32,
                               boil := { s.boil with flue := v, flueValid := true } }))

/-- R313 with R304, R305, R306, R312, R314: CAS_STEP of unit 0. It changes RES, the unit's regulator,
frame and inputs only. -/
def Obligations.RadiatorStepFollowsItsPolicy : Prop :=
  ∀ s : State, s.cfg.wf = true →
    let p := s.cfg.rad
    ∃ t, exec (.casStep .radiator) s = .next t
      ∧ t = { s with res := t.res, reg0 := t.reg0, frame0 := t.frame0, rad := t.rad }
      ∧ t.frame0.lastTicks.toNat = (if s.rad.freshFeed then 0 else 1)
      ∧ t.frame0.failCount.toNat
          = (if s.rad.freshFeed then 0
             else min (s.frame0.failCount.toNat + 1) s.cfg.frame0.failSat)
      ∧ t.frame0.casTarget.toInt
          = max p.minTemp (min p.maxTemp
              (p.baseZero - Int.tdiv s.rad.outdoor.toInt p.outdoorK
                + (p.indoorTarget - s.rad.indoor.toInt) * p.indoorGain))
      ∧ (t.frame0.tripped = true ↔ s.cfg.frame0.failThreshold < t.frame0.failCount.toNat)
      ∧ (t.frame0.tripped = true →
          t.res = 0#32 ∧ t.reg0 = s.reg0
          ∧ t.frame0.casOut.toInt = (match s.cfg.frame0.dirPol with
              | .posUp => s.cfg.reg0.outMin
              | .posDown => -s.cfg.reg0.outMax))
      ∧ (t.frame0.tripped = false →
          t.res = 1#32
          ∧ ∃ r, exec (.regStep .radiator s.rad.feed)
                { s with reg0 := { s.reg0 with target := t.frame0.casTarget } } = .next r
              ∧ t.reg0 = r.reg0
              ∧ t.frame0.casOut.toInt = (match s.cfg.frame0.dirPol with
                  | .posUp => r.res.toInt
                  | .posDown => -r.res.toInt))
      ∧ t.rad.feed = s.rad.feed ∧ t.rad.indoor.toInt = p.indoorDefault
      ∧ t.rad.outdoor.toInt = p.outdoorDefault ∧ t.rad.freshFeed = false

/-- R325 with R304 to R306, R321 to R324, R326 to R328, R368: CAS_STEP of unit 1. It changes RES, the
unit's regulator, frame and inputs, the pump bit of ACT, and the port. -/
def Obligations.BoilerStepFollowsItsPolicy : Prop :=
  ∀ s : State, s.cfg.wf = true →
    let p := s.cfg.boil
    let b := s.boil
    let miss := (if b.freshIn then 0 else 1) + (if b.freshOut then 0 else 1)
    let gap := p.gapMax < |b.outlet.toInt - b.inlet.toInt|
    let inlet := if gap then b.outlet else b.inlet
    let ticks := (match p.missMode with
      | .perInput => miss
      | .once => if 0 < miss then 1 else 0) + (if gap then 1 else 0)
    let stop := b.outlet.toInt < p.outletMax ∧ ticks = 0 ∧ b.avgValid = true
      ∧ b.outlet.toInt ≤ b.avg.toInt ∧ |b.outlet.toInt - inlet.toInt| ≤ p.nearDelta
      ∧ b.flueValid = true ∧ b.flue.toInt < p.flueFire
    ∃ t, exec (.casStep .boiler) s = .next t
      ∧ t = { s with res := t.res, reg1 := t.reg1, frame1 := t.frame1, boil := t.boil,
                     act := t.act, port := t.port, trace := .portWrite t.port :: s.trace }
      ∧ t.frame1.lastTicks.toNat = ticks
      ∧ t.frame1.failCount.toNat
          = (if ticks = 0 then 0
             else min (s.frame1.failCount.toNat + ticks) s.cfg.frame1.failSat)
      ∧ (stop → t.frame1.casTarget.toInt
          = max (b.outlet.toInt - p.minDelta) (inlet.toInt + p.minDelta))
      ∧ (¬ stop → t.frame1.casTarget.toInt = max (b.outlet.toInt - p.maxDelta) p.baseTarget)
      ∧ (t.frame1.tripped = true ↔ s.cfg.frame1.failThreshold < t.frame1.failCount.toNat)
      ∧ (t.frame1.tripped = true →
          t.res = 0#32 ∧ t.reg1 = s.reg1 ∧ t.boil.pumpOn = true
          ∧ t.frame1.casOut.toInt = (match s.cfg.frame1.dirPol with
              | .posUp => s.cfg.reg1.outMin
              | .posDown => -s.cfg.reg1.outMax))
      ∧ (t.frame1.tripped = false →
          t.res = 1#32 ∧ (t.boil.pumpOn = false ↔ stop)
          ∧ ∃ r, exec (.regStep .boiler inlet)
                { s with reg1 := { s.reg1 with target := t.frame1.casTarget } } = .next r
              ∧ t.reg1 = r.reg1
              ∧ t.frame1.casOut.toInt = (match s.cfg.frame1.dirPol with
                  | .posUp => r.res.toInt
                  | .posDown => -r.res.toInt))
      ∧ t.boil.current = inlet ∧ (t.boil.guard = true ↔ gap)
      ∧ (∀ j < 8, t.act.getLsbD j
          = if j = s.cfg.act.pump.val then t.boil.pumpOn else s.act.getLsbD j)
      ∧ t.port = t.act ^^^ 0xFF#8
      ∧ (b.freshOut = false → t.boil.avg = b.avg ∧ t.boil.avgValid = b.avgValid)
      ∧ (b.freshOut = true → t.boil.avgValid = true
          ∧ (b.avgValid = false → t.boil.avg = b.outlet)
          ∧ (b.avgValid = true → t.boil.avg.toInt
              = Int.tdiv (b.avg.toInt * (p.avgDiv - 1) + b.outlet.toInt) p.avgDiv))
      ∧ t.boil.inlet.toInt = p.inletSentinel ∧ t.boil.freshIn = false ∧ t.boil.freshOut = false
      ∧ t.boil.outlet = b.outlet ∧ t.boil.flue = b.flue ∧ t.boil.flueValid = b.flueValid

/-- R316, the spec's own inference from R304 to R306 and R313: from FAIL_COUNT = 0 and no reading ever
coming, CAS_STEP of unit 0 returns 1 in cycles 1 to FAIL_THRESHOLD and 0 in every later one, with CAS_OUT
= TripOut (R306), the full-range Down output. -/
def Obligations.RadiatorTripsAfterTheThreshold : Prop :=
  ∀ (s : State) (n : Nat),
    s.cfg.wf = true → s.frame0.failCount = 0#8 → s.rad.freshFeed = false →
      ∀ k t, (issues (.casStep .radiator) n s)[k]? = some t →
        (k < s.cfg.frame0.failThreshold → t.res = 1#32 ∧ t.frame0.tripped = false)
        ∧ (s.cfg.frame0.failThreshold ≤ k → t.res = 0#32 ∧ t.frame0.tripped = true
            ∧ t.frame0.casOut.toInt = fullRangeDown s.cfg.frame0.dirPol s.cfg.reg0
            ∧ dir t.frame0.casOut.toInt = .down)

/-- R331, the spec's own inference from R304, R321 and R322, with R330: from FAIL_COUNT = 0 and no boiler
reading ever coming, CAS_STEP of unit 1 has tripped in cycle FAIL_THRESHOLD + 1 at the latest, and stays
tripped, with CAS_OUT = TripOut (R306), the full-range Down output, and the pump running. -/
def Obligations.BoilerTripsAfterTheThreshold : Prop :=
  ∀ (s : State) (n : Nat),
    s.cfg.wf = true → s.frame1.failCount = 0#8 → s.boil.freshIn = false →
    s.boil.freshOut = false →
      ∀ k t, (issues (.casStep .boiler) n s)[k]? = some t → s.cfg.frame1.failThreshold ≤ k →
        t.res = 0#32 ∧ t.frame1.tripped = true
        ∧ t.frame1.casOut.toInt = fullRangeDown s.cfg.frame1.dirPol s.cfg.reg1
        ∧ dir t.frame1.casOut.toInt = .down
        ∧ t.boil.pumpOn = true

/-- R31, the spec's own inference from R326: a rolling average lies between the old average and the new
outlet value. -/
def Obligations.RollingAverageLiesBetween : Prop :=
  ∀ s : State, s.cfg.wf = true → s.boil.avgValid = true → s.boil.freshOut = true →
    ∃ t, exec (.casStep .boiler) s = .next t
      ∧ min s.boil.avg.toInt s.boil.outlet.toInt ≤ t.boil.avg.toInt
      ∧ t.boil.avg.toInt ≤ max s.boil.avg.toInt s.boil.outlet.toInt

/-- R309, R310: CAS_GETOUT returns CAS_OUT and CAS_GETABS its magnitude; nothing else changes. -/
def Obligations.CascadeOutputIsReturned : Prop :=
  ∀ (s : State) (u : UnitId),
    exec (.casGetout u) s = .next { s with res := (s.frame u).casOut }
    ∧ ∃ v : Word, exec (.casGetabs u) s = .next { s with res := v }
        ∧ v.toNat = (s.frame u).casOut.toInt.natAbs

/-! ### Actuator register and ActuatorTimeSlicer -/

/-- R362, R363, R361: ACT_SET and ACT_CLR change one bit of ACT, write the port once with the complement,
and change nothing else. -/
def Obligations.ActSetAndActClrChangeOneBit : Prop :=
  ∀ (s : State) (bit : BitVec 3),
    (∃ a : Byte, exec (.actSet bit) s
        = .next { s with act := a, port := a ^^^ 0xFF#8, trace := .portWrite (a ^^^ 0xFF#8) :: s.trace }
      ∧ ∀ j < 8, a.getLsbD j = (decide (j = bit.toNat) || s.act.getLsbD j))
    ∧ ∃ a : Byte, exec (.actClr bit) s
        = .next { s with act := a, port := a ^^^ 0xFF#8, trace := .portWrite (a ^^^ 0xFF#8) :: s.trace }
      ∧ ∀ j < 8, a.getLsbD j = (!decide (j = bit.toNat) && s.act.getLsbD j)

/-- R365, with the model's steps of a SLICE (notes/assumptions/6.md): SLICE with two valves to drive
asserts both directions in one port write, changes no other ACT bit, reads the counter once and is then in
progress, waiting from that reading; nothing else changes. With two stopped valves it ends at once with
RES = 0, after three port writes of one value. -/
def Obligations.SliceAssertsBothDirections : Prop :=
  ∀ s : State, s.cfg.wf = true →
    (s.frame0.casOut.toInt ≠ 0 → s.frame1.casOut.toInt ≠ 0 →
      ∃ t p, exec .slice s = .next t
        ∧ t = { s with act := t.act, port := t.act ^^^ 0xFF#8, slice := some p,
                       clockReads := s.clockReads + 1,
                       trace := .clockRead s.clock :: .portWrite (t.act ^^^ 0xFF#8) :: s.trace }
        ∧ (∀ j < 8, t.act.getLsbD j
            = (if j = s.cfg.act.radUp.val then decide (0 < s.frame0.casOut.toInt)
               else if j = s.cfg.act.radDown.val then decide (s.frame0.casOut.toInt < 0)
               else if j = s.cfg.act.boilUp.val then decide (0 < s.frame1.casOut.toInt)
               else if j = s.cfg.act.boilDown.val then decide (s.frame1.casOut.toInt < 0)
               else s.act.getLsbD j))
        ∧ p.t0 = s.clock ∧ p.last = s.clock ∧ p.firstStopped = false
        ∧ p.first = (if s.frame0.casOut.toInt.natAbs ≤ s.frame1.casOut.toInt.natAbs
            then .radiator else .boiler)
        ∧ p.tFirst.toNat = min s.frame0.casOut.toInt.natAbs s.frame1.casOut.toInt.natAbs
        ∧ p.tSecond.toNat = max s.frame0.casOut.toInt.natAbs s.frame1.casOut.toInt.natAbs)
    ∧ (s.frame0.casOut.toInt = 0 → s.frame1.casOut.toInt = 0 →
      ∃ a : Byte, exec .slice s = .next { s with
          act := a, port := a ^^^ 0xFF#8, res := 0#32, slice := none, clockReads := s.clockReads + 1,
          trace := .portWrite (a ^^^ 0xFF#8) :: .portWrite (a ^^^ 0xFF#8) :: .clockRead s.clock
            :: .portWrite (a ^^^ 0xFF#8) :: s.trace }
        ∧ ∀ j < 8, a.getLsbD j
            = (if j = s.cfg.act.radUp.val ∨ j = s.cfg.act.radDown.val
                 ∨ j = s.cfg.act.boilUp.val ∨ j = s.cfg.act.boilDown.val
               then false else s.act.getLsbD j))

/-- R365, R366, R367, with the model's steps of a SLICE (notes/assumptions/6.md): the whole schedule. A
SLICE issued with the counter then advancing by the shorter hold time and by the difference ends with RES
the longer one, having written the port exactly three times: both directions asserted, the shorter one
stopped (A on a tie), the other stopped; no other ACT bit changes. -/
def Obligations.SliceRunsItsSchedule : Prop :=
  ∀ (s : State) (rest : List Input),
    s.cfg.wf = true → s.slice = none → s.status.fault = false →
    let tA := s.frame0.casOut.toInt.natAbs
    let tB := s.frame1.casOut.toInt.natAbs
    s.inputs = .access (.write 32 0x000 0x00000042#32) :: .ticks (min tA tB)
      :: .ticks (max tA tB - min tA tB) :: rest →
      ∃ t a0 a1 a2, Host.Core.run Sys2Proof.core 3 s = .next t
        ∧ t = { s with act := a2, port := a2 ^^^ 0xFF#8, res := BitVec.ofNat 32 (max tA tB),
                       inputs := rest, clock := s.clock + BitVec.ofNat 32 (max tA tB),
                       clockReads := t.clockReads, trace := t.trace }
        ∧ portWrites t.trace
            = [a2 ^^^ 0xFF#8, a1 ^^^ 0xFF#8, a0 ^^^ 0xFF#8] ++ portWrites s.trace
        ∧ ∀ j < 8,
            a0.getLsbD j
              = (if j = s.cfg.act.radUp.val then decide (0 < s.frame0.casOut.toInt)
                 else if j = s.cfg.act.radDown.val then decide (s.frame0.casOut.toInt < 0)
                 else if j = s.cfg.act.boilUp.val then decide (0 < s.frame1.casOut.toInt)
                 else if j = s.cfg.act.boilDown.val then decide (s.frame1.casOut.toInt < 0)
                 else s.act.getLsbD j)
            ∧ a1.getLsbD j
              = (if (if tA ≤ tB then j = s.cfg.act.radUp.val ∨ j = s.cfg.act.radDown.val
                     else j = s.cfg.act.boilUp.val ∨ j = s.cfg.act.boilDown.val)
                 then false else a0.getLsbD j)
            ∧ a2.getLsbD j
              = (if j = s.cfg.act.radUp.val ∨ j = s.cfg.act.radDown.val
                   ∨ j = s.cfg.act.boilUp.val ∨ j = s.cfg.act.boilDown.val
                 then false else s.act.getLsbD j)

/-- R366, R110, with the model's one reading a step (notes/assumptions/6.md): a SLICE in progress whose
counter reading has not reached the wait's end keeps waiting, whether ticks, a host access or nothing
stands next: only the clock and its readings move, and a host access that stands next is not made and
stays next. Without ticks the counter moves by a free number (notes/assumptions/4.md). -/
def Obligations.SliceWaitsUntilTheCounterReaches : Prop :=
  ∀ (s : State) (p : SliceProgress) (n : Nat) (rest : List Input),
    s.cfg.wf = true → s.slice = some p → ReadingAdvances s n rest →
    (s.clock + BitVec.ofNat 32 n - p.t0).toNat < (if p.firstStopped then p.tSecond else p.tFirst).toNat →
      step s = .next { s with
        inputs := rest, clock := s.clock + BitVec.ofNat 32 n, clockReads := s.clockReads + 1,
        slice := some { p with last := s.clock + BitVec.ofNat 32 n },
        trace := .clockRead (s.clock + BitVec.ofNat 32 n) :: s.trace }

/-- R365, R366, R110, with the model's one reading a step (notes/assumptions/6.md): what a SLICE in
progress does at a reading that reaches or passes the end of a wait. It stops the first actuator alone, or
both in order, or the second, each stop clearing the two direction bits of one actuator with one port
write; the last stop ends the command with RES the longer hold time. A host access that stands next is not
made and stays next; without ticks the counter moves by a free number (notes/assumptions/4.md). Nothing
else changes. -/
def Obligations.SliceStopsAtTheReadingThatReaches : Prop :=
  ∀ (s : State) (p : SliceProgress) (n : Nat) (rest : List Input),
    s.cfg.wf = true → s.slice = some p → ReadingAdvances s n rest →
    let c := s.clock + BitVec.ofNat 32 n
    let d := (c - p.t0).toNat
    let stopped (u : UnitId) (a b : Byte) := ∀ j < 8,
      b.getLsbD j
        = (if j = upBit s.cfg u ∨ j = downBit s.cfg u then false else a.getLsbD j)
    (p.firstStopped = false → p.tFirst.toNat ≤ d → d < p.tSecond.toNat →
      ∃ a : Byte, step s = .next { s with
          act := a, port := a ^^^ 0xFF#8, inputs := rest, clock := c,
          clockReads := s.clockReads + 1,
          slice := some { p with last := c, firstStopped := true },
          trace := .portWrite (a ^^^ 0xFF#8) :: .clockRead c :: s.trace }
        ∧ stopped p.first s.act a)
    ∧ (p.firstStopped = false → p.tFirst.toNat ≤ d → p.tSecond.toNat ≤ d →
      ∃ a b : Byte, step s = .next { s with
          act := b, port := b ^^^ 0xFF#8, res := p.tSecond, inputs := rest, clock := c,
          clockReads := s.clockReads + 1, slice := none,
          trace := .portWrite (b ^^^ 0xFF#8) :: .portWrite (a ^^^ 0xFF#8) :: .clockRead c
            :: s.trace }
        ∧ stopped p.first s.act a ∧ stopped (otherUnit p.first) a b)
    ∧ (p.firstStopped = true → p.tSecond.toNat ≤ d →
      ∃ a : Byte, step s = .next { s with
          act := a, port := a ^^^ 0xFF#8, res := p.tSecond, inputs := rest, clock := c,
          clockReads := s.clockReads + 1, slice := none,
          trace := .portWrite (a ^^^ 0xFF#8) :: .clockRead c :: s.trace }
        ∧ stopped (otherUnit p.first) s.act a)
    ∧ (SliceAgrees s → p.tSecond.toNat
        = max s.frame0.casOut.toInt.natAbs s.frame1.casOut.toInt.natAbs)

/-- R471, the spec's own inference from R365 (the ticks are inputs, notes/assumptions/4.md): with a
counter that stops advancing a SLICE waits for ever: however often it reads, it is still in progress, with
ACT and PORT as they were. -/
def Obligations.StoppedClockKeepsSliceWaiting : Prop :=
  ∀ (s : State) (p : SliceProgress) (n : Nat) (rest : List Input),
    s.cfg.wf = true → SliceAgrees s → s.slice = some p → p.last = s.clock →
    s.inputs = List.replicate n (.ticks 0) ++ rest →
      ∃ t, Host.Core.run Sys2Proof.core n s = .next t ∧ t.slice = some p
        ∧ t.act = s.act ∧ t.port = s.port ∧ t.clock = s.clock ∧ t.inputs = rest

/-! ### Rules over the whole machine -/

/-- R39: a unit's regulator is written only by REG_SETTGT, REG_STEP, REG_RESET and CAS_STEP of that
unit. -/
def Obligations.RegulatorHasFourWriters : Prop :=
  ∀ (i : Instr) (s t : State) (u : UnitId), exec i s = .next t →
    (∀ v, i ≠ .regSettgt u v) → (∀ v, i ≠ .regStep u v) → i ≠ .regReset u → i ≠ .casStep u →
      t.reg u = s.reg u

/-- R44, R361: ACT is written only by ACT_SET, ACT_CLR, SLICE and CAS_STEP of unit 1, and by each of them
the port is left the complement. -/
def Obligations.ActHasFourWriters : Prop :=
  ∀ (i : Instr) (s t : State), exec i s = .next t →
    ((∀ b, i ≠ .actSet b) → (∀ b, i ≠ .actClr b) → i ≠ .slice → i ≠ .casStep .boiler →
      t.act = s.act ∧ t.port = s.port)
    ∧ ((∃ b, i = .actSet b ∨ i = .actClr b) ∨ i = .slice ∨ i = .casStep .boiler →
      PortIsComplement t)

/-- R33, R35, R36, R38: STATUS.FOUND, ADDR_OUT and the SearchState are written by the search commands
only, CRC_OK and CRC_ACC by the CRC commands only, VALID by the decoders only. -/
def Obligations.StatusAndSearchFieldsHaveTheirWriters : Prop :=
  ∀ (i : Instr) (s t : State), exec i s = .next t →
    (i ≠ .srchStart → i ≠ .srchNext → t.status.found = s.status.found ∧ t.search = s.search)
    ∧ (i ≠ .srchNext → t.addrOut = s.addrOut ∧ t.bus = s.bus)
    ∧ (i ≠ .crcAddr → t.status.crcOk = s.status.crcOk)
    ∧ (i ≠ .crcClr → i ≠ .crcAddr → (∀ b, i ≠ .crcByte b) → t.crcAcc = s.crcAcc)
    ∧ ((∀ r, i ≠ .decSensor r) → (∀ r, i ≠ .decTc r) → t.status.valid = s.status.valid)

/-- R416, R303, R308: the units are not coupled: no command that names the boiler, and no command that
names no unit, changes the radiator's registers; and the other way round. -/
def Obligations.UnitsDoNotInterfere : Prop :=
  ∀ (i : Instr) (s t : State), exec i s = .next t →
    ((∀ v, i ≠ .regSettgt .radiator v) → (∀ v, i ≠ .regStep .radiator v) →
      i ≠ .regReset .radiator → (∀ v, i ≠ .casSensor .radiator v) → i ≠ .casStep .radiator →
        t.reg0 = s.reg0 ∧ t.frame0 = s.frame0 ∧ t.rad = s.rad)
    ∧ ((∀ v, i ≠ .regSettgt .boiler v) → (∀ v, i ≠ .regStep .boiler v) →
      i ≠ .regReset .boiler → (∀ v, i ≠ .casSensor .boiler v) → i ≠ .casStep .boiler →
        t.reg1 = s.reg1 ∧ t.frame1 = s.frame1 ∧ t.boil = s.boil)

/-- The state right after reset meets the invariant, for every well-formed configuration. -/
def Obligations.ResetMeetsTheInvariant : Prop :=
  (∀ c : Config, c.wf = true → Inv (State.resetWith c)) ∧ Inv State.reset

/-- Every step keeps the invariant, from every state that meets it (R31, R45, R268, R269, R302, R304,
R305, R366), and never changes the configuration (R441). -/
def Obligations.StepKeepsTheInvariant : Prop :=
  ∀ s t : State, Inv s → step s = .next t → Inv t ∧ t.cfg = s.cfg
end

