-- ==== Sys2Proof/Laws/State.lean ====
section
/-! SUPPORT. One lemma per field per named update of the state, so that no proof unfolds an update. -/

namespace Sys2Proof.Machine

/-! ### `result(v)` (R19) -/

@[simp] theorem State.result_cfg (s : State) (v : Word) : (s.result v).cfg = s.cfg := rfl

@[simp] theorem State.result_res (s : State) (v : Word) : (s.result v).res = v := rfl

@[simp] theorem State.result_status (s : State) (v : Word) : (s.result v).status = s.status := rfl

@[simp] theorem State.result_addrIn (s : State) (v : Word) : (s.result v).addrIn = s.addrIn := rfl

@[simp] theorem State.result_addrOut (s : State) (v : Word) :
    (s.result v).addrOut = s.addrOut := rfl

@[simp] theorem State.result_search (s : State) (v : Word) : (s.result v).search = s.search := rfl

@[simp] theorem State.result_crcAcc (s : State) (v : Word) : (s.result v).crcAcc = s.crcAcc := rfl

@[simp] theorem State.result_reg0 (s : State) (v : Word) : (s.result v).reg0 = s.reg0 := rfl

@[simp] theorem State.result_reg1 (s : State) (v : Word) : (s.result v).reg1 = s.reg1 := rfl

@[simp] theorem State.result_frame0 (s : State) (v : Word) : (s.result v).frame0 = s.frame0 := rfl

@[simp] theorem State.result_frame1 (s : State) (v : Word) : (s.result v).frame1 = s.frame1 := rfl

@[simp] theorem State.result_rad (s : State) (v : Word) : (s.result v).rad = s.rad := rfl

@[simp] theorem State.result_boil (s : State) (v : Word) : (s.result v).boil = s.boil := rfl

@[simp] theorem State.result_act (s : State) (v : Word) : (s.result v).act = s.act := rfl

@[simp] theorem State.result_port (s : State) (v : Word) : (s.result v).port = s.port := rfl

@[simp] theorem State.result_slice (s : State) (v : Word) : (s.result v).slice = s.slice := rfl

@[simp] theorem State.result_clock (s : State) (v : Word) : (s.result v).clock = s.clock := rfl

@[simp] theorem State.result_clockReads (s : State) (v : Word) :
    (s.result v).clockReads = s.clockReads := rfl

@[simp] theorem State.result_bus (s : State) (v : Word) : (s.result v).bus = s.bus := rfl

@[simp] theorem State.result_inputs (s : State) (v : Word) : (s.result v).inputs = s.inputs := rfl

@[simp] theorem State.result_readData (s : State) (v : Word) :
    (s.result v).readData = s.readData := rfl

@[simp] theorem State.result_trace (s : State) (v : Word) : (s.result v).trace = s.trace := rfl

/-! ### STATUS.FOUND <- b -/

@[simp] theorem State.setFound_cfg (s : State) (b : Bool) : (s.setFound b).cfg = s.cfg := rfl

@[simp] theorem State.setFound_res (s : State) (b : Bool) : (s.setFound b).res = s.res := rfl

@[simp] theorem State.setFound_status (s : State) (b : Bool) :
    (s.setFound b).status = { s.status with found := b } := rfl

@[simp] theorem State.setFound_addrIn (s : State) (b : Bool) :
    (s.setFound b).addrIn = s.addrIn := rfl

@[simp] theorem State.setFound_addrOut (s : State) (b : Bool) :
    (s.setFound b).addrOut = s.addrOut := rfl

@[simp] theorem State.setFound_search (s : State) (b : Bool) :
    (s.setFound b).search = s.search := rfl

@[simp] theorem State.setFound_crcAcc (s : State) (b : Bool) :
    (s.setFound b).crcAcc = s.crcAcc := rfl

@[simp] theorem State.setFound_reg0 (s : State) (b : Bool) : (s.setFound b).reg0 = s.reg0 := rfl

@[simp] theorem State.setFound_reg1 (s : State) (b : Bool) : (s.setFound b).reg1 = s.reg1 := rfl

@[simp] theorem State.setFound_frame0 (s : State) (b : Bool) :
    (s.setFound b).frame0 = s.frame0 := rfl

@[simp] theorem State.setFound_frame1 (s : State) (b : Bool) :
    (s.setFound b).frame1 = s.frame1 := rfl

@[simp] theorem State.setFound_rad (s : State) (b : Bool) : (s.setFound b).rad = s.rad := rfl

@[simp] theorem State.setFound_boil (s : State) (b : Bool) : (s.setFound b).boil = s.boil := rfl

@[simp] theorem State.setFound_act (s : State) (b : Bool) : (s.setFound b).act = s.act := rfl

@[simp] theorem State.setFound_port (s : State) (b : Bool) : (s.setFound b).port = s.port := rfl

@[simp] theorem State.setFound_slice (s : State) (b : Bool) : (s.setFound b).slice = s.slice := rfl

@[simp] theorem State.setFound_clock (s : State) (b : Bool) : (s.setFound b).clock = s.clock := rfl

@[simp] theorem State.setFound_clockReads (s : State) (b : Bool) :
    (s.setFound b).clockReads = s.clockReads := rfl

@[simp] theorem State.setFound_bus (s : State) (b : Bool) : (s.setFound b).bus = s.bus := rfl

@[simp] theorem State.setFound_inputs (s : State) (b : Bool) :
    (s.setFound b).inputs = s.inputs := rfl

@[simp] theorem State.setFound_readData (s : State) (b : Bool) :
    (s.setFound b).readData = s.readData := rfl

@[simp] theorem State.setFound_trace (s : State) (b : Bool) : (s.setFound b).trace = s.trace := rfl

/-! ### STATUS.CRC_OK <- b -/

@[simp] theorem State.setCrcOk_cfg (s : State) (b : Bool) : (s.setCrcOk b).cfg = s.cfg := rfl

@[simp] theorem State.setCrcOk_res (s : State) (b : Bool) : (s.setCrcOk b).res = s.res := rfl

@[simp] theorem State.setCrcOk_status (s : State) (b : Bool) :
    (s.setCrcOk b).status = { s.status with crcOk := b } := rfl

@[simp] theorem State.setCrcOk_addrIn (s : State) (b : Bool) :
    (s.setCrcOk b).addrIn = s.addrIn := rfl

@[simp] theorem State.setCrcOk_addrOut (s : State) (b : Bool) :
    (s.setCrcOk b).addrOut = s.addrOut := rfl

@[simp] theorem State.setCrcOk_search (s : State) (b : Bool) :
    (s.setCrcOk b).search = s.search := rfl

@[simp] theorem State.setCrcOk_crcAcc (s : State) (b : Bool) :
    (s.setCrcOk b).crcAcc = s.crcAcc := rfl

@[simp] theorem State.setCrcOk_reg0 (s : State) (b : Bool) : (s.setCrcOk b).reg0 = s.reg0 := rfl

@[simp] theorem State.setCrcOk_reg1 (s : State) (b : Bool) : (s.setCrcOk b).reg1 = s.reg1 := rfl

@[simp] theorem State.setCrcOk_frame0 (s : State) (b : Bool) :
    (s.setCrcOk b).frame0 = s.frame0 := rfl

@[simp] theorem State.setCrcOk_frame1 (s : State) (b : Bool) :
    (s.setCrcOk b).frame1 = s.frame1 := rfl

@[simp] theorem State.setCrcOk_rad (s : State) (b : Bool) : (s.setCrcOk b).rad = s.rad := rfl

@[simp] theorem State.setCrcOk_boil (s : State) (b : Bool) : (s.setCrcOk b).boil = s.boil := rfl

@[simp] theorem State.setCrcOk_act (s : State) (b : Bool) : (s.setCrcOk b).act = s.act := rfl

@[simp] theorem State.setCrcOk_port (s : State) (b : Bool) : (s.setCrcOk b).port = s.port := rfl

@[simp] theorem State.setCrcOk_slice (s : State) (b : Bool) : (s.setCrcOk b).slice = s.slice := rfl

@[simp] theorem State.setCrcOk_clock (s : State) (b : Bool) : (s.setCrcOk b).clock = s.clock := rfl

@[simp] theorem State.setCrcOk_clockReads (s : State) (b : Bool) :
    (s.setCrcOk b).clockReads = s.clockReads := rfl

@[simp] theorem State.setCrcOk_bus (s : State) (b : Bool) : (s.setCrcOk b).bus = s.bus := rfl

@[simp] theorem State.setCrcOk_inputs (s : State) (b : Bool) :
    (s.setCrcOk b).inputs = s.inputs := rfl

@[simp] theorem State.setCrcOk_readData (s : State) (b : Bool) :
    (s.setCrcOk b).readData = s.readData := rfl

@[simp] theorem State.setCrcOk_trace (s : State) (b : Bool) : (s.setCrcOk b).trace = s.trace := rfl

/-! ### STATUS.VALID <- b -/

@[simp] theorem State.setValid_cfg (s : State) (b : Bool) : (s.setValid b).cfg = s.cfg := rfl

@[simp] theorem State.setValid_res (s : State) (b : Bool) : (s.setValid b).res = s.res := rfl

@[simp] theorem State.setValid_status (s : State) (b : Bool) :
    (s.setValid b).status = { s.status with valid := b } := rfl

@[simp] theorem State.setValid_addrIn (s : State) (b : Bool) :
    (s.setValid b).addrIn = s.addrIn := rfl

@[simp] theorem State.setValid_addrOut (s : State) (b : Bool) :
    (s.setValid b).addrOut = s.addrOut := rfl

@[simp] theorem State.setValid_search (s : State) (b : Bool) :
    (s.setValid b).search = s.search := rfl

@[simp] theorem State.setValid_crcAcc (s : State) (b : Bool) :
    (s.setValid b).crcAcc = s.crcAcc := rfl

@[simp] theorem State.setValid_reg0 (s : State) (b : Bool) : (s.setValid b).reg0 = s.reg0 := rfl

@[simp] theorem State.setValid_reg1 (s : State) (b : Bool) : (s.setValid b).reg1 = s.reg1 := rfl

@[simp] theorem State.setValid_frame0 (s : State) (b : Bool) :
    (s.setValid b).frame0 = s.frame0 := rfl

@[simp] theorem State.setValid_frame1 (s : State) (b : Bool) :
    (s.setValid b).frame1 = s.frame1 := rfl

@[simp] theorem State.setValid_rad (s : State) (b : Bool) : (s.setValid b).rad = s.rad := rfl

@[simp] theorem State.setValid_boil (s : State) (b : Bool) : (s.setValid b).boil = s.boil := rfl

@[simp] theorem State.setValid_act (s : State) (b : Bool) : (s.setValid b).act = s.act := rfl

@[simp] theorem State.setValid_port (s : State) (b : Bool) : (s.setValid b).port = s.port := rfl

@[simp] theorem State.setValid_slice (s : State) (b : Bool) : (s.setValid b).slice = s.slice := rfl

@[simp] theorem State.setValid_clock (s : State) (b : Bool) : (s.setValid b).clock = s.clock := rfl

@[simp] theorem State.setValid_clockReads (s : State) (b : Bool) :
    (s.setValid b).clockReads = s.clockReads := rfl

@[simp] theorem State.setValid_bus (s : State) (b : Bool) : (s.setValid b).bus = s.bus := rfl

@[simp] theorem State.setValid_inputs (s : State) (b : Bool) :
    (s.setValid b).inputs = s.inputs := rfl

@[simp] theorem State.setValid_readData (s : State) (b : Bool) :
    (s.setValid b).readData = s.readData := rfl

@[simp] theorem State.setValid_trace (s : State) (b : Bool) : (s.setValid b).trace = s.trace := rfl

/-! ### `PortWrite(v)` (R19) -/

@[simp] theorem State.portWrite_cfg (s : State) (v : Byte) : (s.portWrite v).cfg = s.cfg := rfl

@[simp] theorem State.portWrite_res (s : State) (v : Byte) : (s.portWrite v).res = s.res := rfl

@[simp] theorem State.portWrite_status (s : State) (v : Byte) :
    (s.portWrite v).status = s.status := rfl

@[simp] theorem State.portWrite_addrIn (s : State) (v : Byte) :
    (s.portWrite v).addrIn = s.addrIn := rfl

@[simp] theorem State.portWrite_addrOut (s : State) (v : Byte) :
    (s.portWrite v).addrOut = s.addrOut := rfl

@[simp] theorem State.portWrite_search (s : State) (v : Byte) :
    (s.portWrite v).search = s.search := rfl

@[simp] theorem State.portWrite_crcAcc (s : State) (v : Byte) :
    (s.portWrite v).crcAcc = s.crcAcc := rfl

@[simp] theorem State.portWrite_reg0 (s : State) (v : Byte) : (s.portWrite v).reg0 = s.reg0 := rfl

@[simp] theorem State.portWrite_reg1 (s : State) (v : Byte) : (s.portWrite v).reg1 = s.reg1 := rfl

@[simp] theorem State.portWrite_frame0 (s : State) (v : Byte) :
    (s.portWrite v).frame0 = s.frame0 := rfl

@[simp] theorem State.portWrite_frame1 (s : State) (v : Byte) :
    (s.portWrite v).frame1 = s.frame1 := rfl

@[simp] theorem State.portWrite_rad (s : State) (v : Byte) : (s.portWrite v).rad = s.rad := rfl

@[simp] theorem State.portWrite_boil (s : State) (v : Byte) : (s.portWrite v).boil = s.boil := rfl

@[simp] theorem State.portWrite_act (s : State) (v : Byte) : (s.portWrite v).act = s.act := rfl

@[simp] theorem State.portWrite_port (s : State) (v : Byte) : (s.portWrite v).port = v := rfl

@[simp] theorem State.portWrite_slice (s : State) (v : Byte) :
    (s.portWrite v).slice = s.slice := rfl

@[simp] theorem State.portWrite_clock (s : State) (v : Byte) :
    (s.portWrite v).clock = s.clock := rfl

@[simp] theorem State.portWrite_clockReads (s : State) (v : Byte) :
    (s.portWrite v).clockReads = s.clockReads := rfl

@[simp] theorem State.portWrite_bus (s : State) (v : Byte) : (s.portWrite v).bus = s.bus := rfl

@[simp] theorem State.portWrite_inputs (s : State) (v : Byte) :
    (s.portWrite v).inputs = s.inputs := rfl

@[simp] theorem State.portWrite_readData (s : State) (v : Byte) :
    (s.portWrite v).readData = s.readData := rfl

@[simp] theorem State.portWrite_trace (s : State) (v : Byte) :
    (s.portWrite v).trace = .portWrite v :: s.trace := rfl

/-! ### ACT <- a with its port write (R361) -/

@[simp] theorem State.writeAct_cfg (s : State) (a : Byte) : (s.writeAct a).cfg = s.cfg := rfl

@[simp] theorem State.writeAct_res (s : State) (a : Byte) : (s.writeAct a).res = s.res := rfl

@[simp] theorem State.writeAct_status (s : State) (a : Byte) :
    (s.writeAct a).status = s.status := rfl

@[simp] theorem State.writeAct_addrIn (s : State) (a : Byte) :
    (s.writeAct a).addrIn = s.addrIn := rfl

@[simp] theorem State.writeAct_addrOut (s : State) (a : Byte) :
    (s.writeAct a).addrOut = s.addrOut := rfl

@[simp] theorem State.writeAct_search (s : State) (a : Byte) :
    (s.writeAct a).search = s.search := rfl

@[simp] theorem State.writeAct_crcAcc (s : State) (a : Byte) :
    (s.writeAct a).crcAcc = s.crcAcc := rfl

@[simp] theorem State.writeAct_reg0 (s : State) (a : Byte) : (s.writeAct a).reg0 = s.reg0 := rfl

@[simp] theorem State.writeAct_reg1 (s : State) (a : Byte) : (s.writeAct a).reg1 = s.reg1 := rfl

@[simp] theorem State.writeAct_frame0 (s : State) (a : Byte) :
    (s.writeAct a).frame0 = s.frame0 := rfl

@[simp] theorem State.writeAct_frame1 (s : State) (a : Byte) :
    (s.writeAct a).frame1 = s.frame1 := rfl

@[simp] theorem State.writeAct_rad (s : State) (a : Byte) : (s.writeAct a).rad = s.rad := rfl

@[simp] theorem State.writeAct_boil (s : State) (a : Byte) : (s.writeAct a).boil = s.boil := rfl

@[simp] theorem State.writeAct_act (s : State) (a : Byte) : (s.writeAct a).act = a := rfl

@[simp] theorem State.writeAct_port (s : State) (a : Byte) :
    (s.writeAct a).port = a ^^^ 0xFF#8 := rfl

@[simp] theorem State.writeAct_slice (s : State) (a : Byte) : (s.writeAct a).slice = s.slice := rfl

@[simp] theorem State.writeAct_clock (s : State) (a : Byte) : (s.writeAct a).clock = s.clock := rfl

@[simp] theorem State.writeAct_clockReads (s : State) (a : Byte) :
    (s.writeAct a).clockReads = s.clockReads := rfl

@[simp] theorem State.writeAct_bus (s : State) (a : Byte) : (s.writeAct a).bus = s.bus := rfl

@[simp] theorem State.writeAct_inputs (s : State) (a : Byte) :
    (s.writeAct a).inputs = s.inputs := rfl

@[simp] theorem State.writeAct_readData (s : State) (a : Byte) :
    (s.writeAct a).readData = s.readData := rfl

@[simp] theorem State.writeAct_trace (s : State) (a : Byte) :
    (s.writeAct a).trace = .portWrite (a ^^^ 0xFF#8) :: s.trace := rfl

/-! ### the counter's advance (R412) -/

@[simp] theorem State.advanceClock_cfg (s : State) (n : Nat) : (s.advanceClock n).cfg = s.cfg := rfl

@[simp] theorem State.advanceClock_res (s : State) (n : Nat) : (s.advanceClock n).res = s.res := rfl

@[simp] theorem State.advanceClock_status (s : State) (n : Nat) :
    (s.advanceClock n).status = s.status := rfl

@[simp] theorem State.advanceClock_addrIn (s : State) (n : Nat) :
    (s.advanceClock n).addrIn = s.addrIn := rfl

@[simp] theorem State.advanceClock_addrOut (s : State) (n : Nat) :
    (s.advanceClock n).addrOut = s.addrOut := rfl

@[simp] theorem State.advanceClock_search (s : State) (n : Nat) :
    (s.advanceClock n).search = s.search := rfl

@[simp] theorem State.advanceClock_crcAcc (s : State) (n : Nat) :
    (s.advanceClock n).crcAcc = s.crcAcc := rfl

@[simp] theorem State.advanceClock_reg0 (s : State) (n : Nat) :
    (s.advanceClock n).reg0 = s.reg0 := rfl

@[simp] theorem State.advanceClock_reg1 (s : State) (n : Nat) :
    (s.advanceClock n).reg1 = s.reg1 := rfl

@[simp] theorem State.advanceClock_frame0 (s : State) (n : Nat) :
    (s.advanceClock n).frame0 = s.frame0 := rfl

@[simp] theorem State.advanceClock_frame1 (s : State) (n : Nat) :
    (s.advanceClock n).frame1 = s.frame1 := rfl

@[simp] theorem State.advanceClock_rad (s : State) (n : Nat) : (s.advanceClock n).rad = s.rad := rfl

@[simp] theorem State.advanceClock_boil (s : State) (n : Nat) :
    (s.advanceClock n).boil = s.boil := rfl

@[simp] theorem State.advanceClock_act (s : State) (n : Nat) : (s.advanceClock n).act = s.act := rfl

@[simp] theorem State.advanceClock_port (s : State) (n : Nat) :
    (s.advanceClock n).port = s.port := rfl

@[simp] theorem State.advanceClock_slice (s : State) (n : Nat) :
    (s.advanceClock n).slice = s.slice := rfl

@[simp] theorem State.advanceClock_clock (s : State) (n : Nat) :
    (s.advanceClock n).clock = s.clock + BitVec.ofNat 32 n := rfl

@[simp] theorem State.advanceClock_clockReads (s : State) (n : Nat) :
    (s.advanceClock n).clockReads = s.clockReads := rfl

@[simp] theorem State.advanceClock_bus (s : State) (n : Nat) : (s.advanceClock n).bus = s.bus := rfl

@[simp] theorem State.advanceClock_inputs (s : State) (n : Nat) :
    (s.advanceClock n).inputs = s.inputs := rfl

@[simp] theorem State.advanceClock_readData (s : State) (n : Nat) :
    (s.advanceClock n).readData = s.readData := rfl

@[simp] theorem State.advanceClock_trace (s : State) (n : Nat) :
    (s.advanceClock n).trace = s.trace := rfl

/-! ### `ClockNow()` (R19) -/

@[simp] theorem State.readClock_cfg (s : State) : (s.readClock).cfg = s.cfg := rfl

@[simp] theorem State.readClock_res (s : State) : (s.readClock).res = s.res := rfl

@[simp] theorem State.readClock_status (s : State) : (s.readClock).status = s.status := rfl

@[simp] theorem State.readClock_addrIn (s : State) : (s.readClock).addrIn = s.addrIn := rfl

@[simp] theorem State.readClock_addrOut (s : State) : (s.readClock).addrOut = s.addrOut := rfl

@[simp] theorem State.readClock_search (s : State) : (s.readClock).search = s.search := rfl

@[simp] theorem State.readClock_crcAcc (s : State) : (s.readClock).crcAcc = s.crcAcc := rfl

@[simp] theorem State.readClock_reg0 (s : State) : (s.readClock).reg0 = s.reg0 := rfl

@[simp] theorem State.readClock_reg1 (s : State) : (s.readClock).reg1 = s.reg1 := rfl

@[simp] theorem State.readClock_frame0 (s : State) : (s.readClock).frame0 = s.frame0 := rfl

@[simp] theorem State.readClock_frame1 (s : State) : (s.readClock).frame1 = s.frame1 := rfl

@[simp] theorem State.readClock_rad (s : State) : (s.readClock).rad = s.rad := rfl

@[simp] theorem State.readClock_boil (s : State) : (s.readClock).boil = s.boil := rfl

@[simp] theorem State.readClock_act (s : State) : (s.readClock).act = s.act := rfl

@[simp] theorem State.readClock_port (s : State) : (s.readClock).port = s.port := rfl

@[simp] theorem State.readClock_slice (s : State) : (s.readClock).slice = s.slice := rfl

@[simp] theorem State.readClock_clock (s : State) : (s.readClock).clock = s.clock := rfl

@[simp] theorem State.readClock_clockReads (s : State) :
    (s.readClock).clockReads = s.clockReads + 1 := rfl

@[simp] theorem State.readClock_bus (s : State) : (s.readClock).bus = s.bus := rfl

@[simp] theorem State.readClock_inputs (s : State) : (s.readClock).inputs = s.inputs := rfl

@[simp] theorem State.readClock_readData (s : State) : (s.readClock).readData = s.readData := rfl

@[simp] theorem State.readClock_trace (s : State) :
    (s.readClock).trace = .clockRead s.clock :: s.trace := rfl

/-! ### `BusWriteBit(d)` (R19) -/

@[simp] theorem State.busWriteBit_cfg (s : State) (d : Bool) : (s.busWriteBit d).cfg = s.cfg := rfl

@[simp] theorem State.busWriteBit_res (s : State) (d : Bool) : (s.busWriteBit d).res = s.res := rfl

@[simp] theorem State.busWriteBit_status (s : State) (d : Bool) :
    (s.busWriteBit d).status = s.status := rfl

@[simp] theorem State.busWriteBit_addrIn (s : State) (d : Bool) :
    (s.busWriteBit d).addrIn = s.addrIn := rfl

@[simp] theorem State.busWriteBit_addrOut (s : State) (d : Bool) :
    (s.busWriteBit d).addrOut = s.addrOut := rfl

@[simp] theorem State.busWriteBit_search (s : State) (d : Bool) :
    (s.busWriteBit d).search = s.search := rfl

@[simp] theorem State.busWriteBit_crcAcc (s : State) (d : Bool) :
    (s.busWriteBit d).crcAcc = s.crcAcc := rfl

@[simp] theorem State.busWriteBit_reg0 (s : State) (d : Bool) :
    (s.busWriteBit d).reg0 = s.reg0 := rfl

@[simp] theorem State.busWriteBit_reg1 (s : State) (d : Bool) :
    (s.busWriteBit d).reg1 = s.reg1 := rfl

@[simp] theorem State.busWriteBit_frame0 (s : State) (d : Bool) :
    (s.busWriteBit d).frame0 = s.frame0 := rfl

@[simp] theorem State.busWriteBit_frame1 (s : State) (d : Bool) :
    (s.busWriteBit d).frame1 = s.frame1 := rfl

@[simp] theorem State.busWriteBit_rad (s : State) (d : Bool) : (s.busWriteBit d).rad = s.rad := rfl

@[simp] theorem State.busWriteBit_boil (s : State) (d : Bool) :
    (s.busWriteBit d).boil = s.boil := rfl

@[simp] theorem State.busWriteBit_act (s : State) (d : Bool) : (s.busWriteBit d).act = s.act := rfl

@[simp] theorem State.busWriteBit_port (s : State) (d : Bool) :
    (s.busWriteBit d).port = s.port := rfl

@[simp] theorem State.busWriteBit_slice (s : State) (d : Bool) :
    (s.busWriteBit d).slice = s.slice := rfl

@[simp] theorem State.busWriteBit_clock (s : State) (d : Bool) :
    (s.busWriteBit d).clock = s.clock := rfl

@[simp] theorem State.busWriteBit_clockReads (s : State) (d : Bool) :
    (s.busWriteBit d).clockReads = s.clockReads := rfl

@[simp] theorem State.busWriteBit_bus (s : State) (d : Bool) :
    (s.busWriteBit d).bus = transportWrite s.bus d := rfl

@[simp] theorem State.busWriteBit_inputs (s : State) (d : Bool) :
    (s.busWriteBit d).inputs = s.inputs := rfl

@[simp] theorem State.busWriteBit_readData (s : State) (d : Bool) :
    (s.busWriteBit d).readData = s.readData := rfl

@[simp] theorem State.busWriteBit_trace (s : State) (d : Bool) :
    (s.busWriteBit d).trace = .busWrite d :: s.trace := rfl

/-! ### a unit's regulator replaced (R39) -/

@[simp] theorem State.setReg_cfg (s : State) (u : UnitId) (r : Regulator) :
    (s.setReg u r).cfg = s.cfg := by cases u <;> rfl

@[simp] theorem State.setReg_res (s : State) (u : UnitId) (r : Regulator) :
    (s.setReg u r).res = s.res := by cases u <;> rfl

@[simp] theorem State.setReg_status (s : State) (u : UnitId) (r : Regulator) :
    (s.setReg u r).status = s.status := by cases u <;> rfl

@[simp] theorem State.setReg_addrIn (s : State) (u : UnitId) (r : Regulator) :
    (s.setReg u r).addrIn = s.addrIn := by cases u <;> rfl

@[simp] theorem State.setReg_addrOut (s : State) (u : UnitId) (r : Regulator) :
    (s.setReg u r).addrOut = s.addrOut := by cases u <;> rfl

@[simp] theorem State.setReg_search (s : State) (u : UnitId) (r : Regulator) :
    (s.setReg u r).search = s.search := by cases u <;> rfl

@[simp] theorem State.setReg_crcAcc (s : State) (u : UnitId) (r : Regulator) :
    (s.setReg u r).crcAcc = s.crcAcc := by cases u <;> rfl

@[simp] theorem State.setReg_frame0 (s : State) (u : UnitId) (r : Regulator) :
    (s.setReg u r).frame0 = s.frame0 := by cases u <;> rfl

@[simp] theorem State.setReg_frame1 (s : State) (u : UnitId) (r : Regulator) :
    (s.setReg u r).frame1 = s.frame1 := by cases u <;> rfl

@[simp] theorem State.setReg_rad (s : State) (u : UnitId) (r : Regulator) :
    (s.setReg u r).rad = s.rad := by cases u <;> rfl

@[simp] theorem State.setReg_boil (s : State) (u : UnitId) (r : Regulator) :
    (s.setReg u r).boil = s.boil := by cases u <;> rfl

@[simp] theorem State.setReg_act (s : State) (u : UnitId) (r : Regulator) :
    (s.setReg u r).act = s.act := by cases u <;> rfl

@[simp] theorem State.setReg_port (s : State) (u : UnitId) (r : Regulator) :
    (s.setReg u r).port = s.port := by cases u <;> rfl

@[simp] theorem State.setReg_slice (s : State) (u : UnitId) (r : Regulator) :
    (s.setReg u r).slice = s.slice := by cases u <;> rfl

@[simp] theorem State.setReg_clock (s : State) (u : UnitId) (r : Regulator) :
    (s.setReg u r).clock = s.clock := by cases u <;> rfl

@[simp] theorem State.setReg_clockReads (s : State) (u : UnitId) (r : Regulator) :
    (s.setReg u r).clockReads = s.clockReads := by cases u <;> rfl

@[simp] theorem State.setReg_bus (s : State) (u : UnitId) (r : Regulator) :
    (s.setReg u r).bus = s.bus := by cases u <;> rfl

@[simp] theorem State.setReg_inputs (s : State) (u : UnitId) (r : Regulator) :
    (s.setReg u r).inputs = s.inputs := by cases u <;> rfl

@[simp] theorem State.setReg_readData (s : State) (u : UnitId) (r : Regulator) :
    (s.setReg u r).readData = s.readData := by cases u <;> rfl

@[simp] theorem State.setReg_trace (s : State) (u : UnitId) (r : Regulator) :
    (s.setReg u r).trace = s.trace := by cases u <;> rfl

/-! ### a unit's frame replaced (R40) -/

@[simp] theorem State.setFrame_cfg (s : State) (u : UnitId) (f : Frame) :
    (s.setFrame u f).cfg = s.cfg := by cases u <;> rfl

@[simp] theorem State.setFrame_res (s : State) (u : UnitId) (f : Frame) :
    (s.setFrame u f).res = s.res := by cases u <;> rfl

@[simp] theorem State.setFrame_status (s : State) (u : UnitId) (f : Frame) :
    (s.setFrame u f).status = s.status := by cases u <;> rfl

@[simp] theorem State.setFrame_addrIn (s : State) (u : UnitId) (f : Frame) :
    (s.setFrame u f).addrIn = s.addrIn := by cases u <;> rfl

@[simp] theorem State.setFrame_addrOut (s : State) (u : UnitId) (f : Frame) :
    (s.setFrame u f).addrOut = s.addrOut := by cases u <;> rfl

@[simp] theorem State.setFrame_search (s : State) (u : UnitId) (f : Frame) :
    (s.setFrame u f).search = s.search := by cases u <;> rfl

@[simp] theorem State.setFrame_crcAcc (s : State) (u : UnitId) (f : Frame) :
    (s.setFrame u f).crcAcc = s.crcAcc := by cases u <;> rfl

@[simp] theorem State.setFrame_reg0 (s : State) (u : UnitId) (f : Frame) :
    (s.setFrame u f).reg0 = s.reg0 := by cases u <;> rfl

@[simp] theorem State.setFrame_reg1 (s : State) (u : UnitId) (f : Frame) :
    (s.setFrame u f).reg1 = s.reg1 := by cases u <;> rfl

@[simp] theorem State.setFrame_rad (s : State) (u : UnitId) (f : Frame) :
    (s.setFrame u f).rad = s.rad := by cases u <;> rfl

@[simp] theorem State.setFrame_boil (s : State) (u : UnitId) (f : Frame) :
    (s.setFrame u f).boil = s.boil := by cases u <;> rfl

@[simp] theorem State.setFrame_act (s : State) (u : UnitId) (f : Frame) :
    (s.setFrame u f).act = s.act := by cases u <;> rfl

@[simp] theorem State.setFrame_port (s : State) (u : UnitId) (f : Frame) :
    (s.setFrame u f).port = s.port := by cases u <;> rfl

@[simp] theorem State.setFrame_slice (s : State) (u : UnitId) (f : Frame) :
    (s.setFrame u f).slice = s.slice := by cases u <;> rfl

@[simp] theorem State.setFrame_clock (s : State) (u : UnitId) (f : Frame) :
    (s.setFrame u f).clock = s.clock := by cases u <;> rfl

@[simp] theorem State.setFrame_clockReads (s : State) (u : UnitId) (f : Frame) :
    (s.setFrame u f).clockReads = s.clockReads := by cases u <;> rfl

@[simp] theorem State.setFrame_bus (s : State) (u : UnitId) (f : Frame) :
    (s.setFrame u f).bus = s.bus := by cases u <;> rfl

@[simp] theorem State.setFrame_inputs (s : State) (u : UnitId) (f : Frame) :
    (s.setFrame u f).inputs = s.inputs := by cases u <;> rfl

@[simp] theorem State.setFrame_readData (s : State) (u : UnitId) (f : Frame) :
    (s.setFrame u f).readData = s.readData := by cases u <;> rfl

@[simp] theorem State.setFrame_trace (s : State) (u : UnitId) (f : Frame) :
    (s.setFrame u f).trace = s.trace := by cases u <;> rfl

/-! ### The registers of a unit under one name -/

@[simp] theorem State.reg_radiator (s : State) : s.reg .radiator = s.reg0 := rfl

@[simp] theorem State.reg_boiler (s : State) : s.reg .boiler = s.reg1 := rfl

@[simp] theorem State.frame_radiator (s : State) : s.frame .radiator = s.frame0 := rfl

@[simp] theorem State.frame_boiler (s : State) : s.frame .boiler = s.frame1 := rfl

@[simp] theorem State.setReg_radiator (s : State) (r : Regulator) :
    s.setReg .radiator r = { s with reg0 := r } := rfl

@[simp] theorem State.setReg_boiler (s : State) (r : Regulator) :
    s.setReg .boiler r = { s with reg1 := r } := rfl

@[simp] theorem State.setFrame_radiator (s : State) (f : Frame) :
    s.setFrame .radiator f = { s with frame0 := f } := rfl

@[simp] theorem State.setFrame_boiler (s : State) (f : Frame) :
    s.setFrame .boiler f = { s with frame1 := f } := rfl

@[simp] theorem State.setReg_reg_same (s : State) (u : UnitId) (r : Regulator) :
    (s.setReg u r).reg u = r := by cases u <;> rfl

theorem State.setReg_reg_of_ne (s : State) {u w : UnitId} (r : Regulator) (h : w ≠ u) :
    (s.setReg u r).reg w = s.reg w := by cases u <;> cases w <;> first | rfl | exact absurd rfl h

@[simp] theorem State.setFrame_reg (s : State) (u w : UnitId) (f : Frame) :
    (s.setFrame u f).reg w = s.reg w := by cases u <;> cases w <;> rfl

@[simp] theorem State.setReg_frame (s : State) (u w : UnitId) (r : Regulator) :
    (s.setReg u r).frame w = s.frame w := by cases u <;> cases w <;> rfl

@[simp] theorem State.setFrame_frame_same (s : State) (u : UnitId) (f : Frame) :
    (s.setFrame u f).frame u = f := by cases u <;> rfl

theorem State.setFrame_frame_of_ne (s : State) {u w : UnitId} (f : Frame) (h : w ≠ u) :
    (s.setFrame u f).frame w = s.frame w := by
  cases u <;> cases w <;> first | rfl | exact absurd rfl h

@[simp] theorem State.result_reg (s : State) (v : Word) (u : UnitId) :
    (s.result v).reg u = s.reg u := by cases u <;> rfl

@[simp] theorem State.result_frame (s : State) (v : Word) (u : UnitId) :
    (s.result v).frame u = s.frame u := by cases u <;> rfl

end Sys2Proof.Machine
end

