-- ==== Sys2Proof/Laws/Ops.lean ====
section
/-! SUPPORT. One specification lemma per shared helper and operation: what a caller needs of it, so that
no proof about a command unfolds it. -/

namespace Sys2Proof.Machine

/-! ### Exact arithmetic and bit fields -/

/-- `clamp` is the usual minimum and maximum where the range is not empty (R17). -/
theorem clamp_eq_max_min (v lo hi : Int) (h : lo ≤ hi) : clamp v lo hi = max lo (min hi v) := by
  unfold clamp; split <;> [skip; split] <;> omega

theorem le_clamp (v lo hi : Int) (h : lo ≤ hi) : lo ≤ clamp v lo hi := by
  rw [clamp_eq_max_min v lo hi h]; omega

theorem clamp_le (v lo hi : Int) (h : lo ≤ hi) : clamp v lo hi ≤ hi := by
  rw [clamp_eq_max_min v lo hi h]; omega

theorem imax_eq_max (a b : Int) : imax a b = max a b := by unfold imax; split <;> omega

theorem iabs_eq_natAbs (v : Int) : iabs v = v.natAbs := by unfold iabs; split <;> omega

/-- A number of the int32 range is read back from its pattern (R24). -/
theorem toInt_toWord (v : Int) (h : -2147483648 ≤ v) (h' : v ≤ 2147483647) :
    (toWord v).toInt = v := by
  rw [toWord, BitVec.toInt_ofInt, Int.bmod_eq_of_le] <;> omega

/-- A number of the int16 range is read back from its pattern (R24). -/
theorem toInt_toHalf (v : Int) (h : -32768 ≤ v) (h' : v ≤ 32767) : (toHalf v).toInt = v := by
  rw [toHalf, BitVec.toInt_ofInt, Int.bmod_eq_of_le] <;> omega

@[simp] theorem toInt_sext32 (v : Half) : (sext32 v).toInt = v.toInt :=
  BitVec.toInt_signExtend_of_le (by omega)

/-- `setBit` changes one bit (R16). -/
theorem getLsbD_setBit {n : Nat} (v : BitVec n) (i j : Nat) (b : Bool) (hj : j < n) :
    (setBit v i b).getLsbD j = if j = i then b else v.getLsbD j := by
  by_cases hij : j = i
  · subst hij; cases b <;> simp [setBit, hj]
  · cases b <;> simp [setBit, hj, hij]

/-- Truncated division by a positive number does not grow the magnitude (R18). -/
theorem tdiv_natAbs_le (a b : Int) : (tdiv a b).natAbs ≤ a.natAbs := by
  unfold tdiv; rw [Int.natAbs_tdiv]; exact Nat.div_le_self _ _

theorem crc8_append (l l' : List Byte) : crc8 (l ++ l') = l'.foldl crc8Step (crc8 l) := by
  simp [crc8]

/-! ### The bus slots -/

theorem busReset_eq (s : State) :
    s.busReset = ((transportReset s.bus).bit,
      { s with bus := (transportReset s.bus).bus,
               trace := .busReset (transportReset s.bus).bit :: s.trace }) := rfl

theorem busReadBit_eq (s : State) :
    s.busReadBit = ((transportRead s.bus).bit,
      { s with bus := (transportRead s.bus).bus,
               trace := .busRead (transportRead s.bus).bit :: s.trace }) := rfl

/-- Everything a run of write slots does (R19). -/
theorem foldl_busWriteBit_eq (l : List Nat) (v : Byte) (s : State) :
    l.foldl (fun t i => t.busWriteBit (v.getLsbD i)) s = { s with
      bus := l.foldl (fun t i => transportWrite t (v.getLsbD i)) s.bus,
      trace := (l.map (fun i => Event.busWrite (v.getLsbD i))).reverse ++ s.trace } := by
  induction l generalizing s with
  | nil => rfl
  | cons i l ih => rw [List.foldl_cons, ih]; simp

/-- Everything a byte written to the bus does: eight slots, the least significant bit first (R19). -/
theorem busWriteByte_eq (s : State) (v : Byte) :
    s.busWriteByte v = { s with
      bus := (List.range 8).foldl (fun t i => transportWrite t (v.getLsbD i)) s.bus,
      trace := ((List.range 8).map (fun i => Event.busWrite (v.getLsbD i))).reverse ++ s.trace } :=
  foldl_busWriteBit_eq (List.range 8) v s

@[simp] theorem transportWrite_oracle (answers : List Bool) (n : Nat) (d : Bool) :
    transportWrite (.oracle answers n) d = .oracle answers n := rfl

@[simp] theorem oracleAnswer_cons (b : Bool) (rest : List Bool) (n : Nat) :
    oracleAnswer (b :: rest) n = { bit := b, bus := .oracle rest (n + 1) } := rfl

/-! ### Raising a fault and reset -/

/-- Raising a fault changes FAULT and, for the first fault, FAULT_CODE; nothing else (R401, R407). -/
theorem raiseFault_eq (code : FaultCode) (s : State) :
    raiseFault code s = { s with status := { s.status with
      fault := true, faultCode := if s.status.fault then s.status.faultCode else code } } := by
  rcases h : s.status.fault with _ | _
  · simp [raiseFault, h]
  · have : s.status = { s.status with fault := true } := by rw [← h]
    simp only [raiseFault, h, if_true]
    rw [← this]

theorem raiseFault_of_faulted (code : FaultCode) (s : State) (h : s.status.fault = true) :
    raiseFault code s = s := by simp [raiseFault, h]

/-- What a reset leaves as it is: everything that is not the block's (R440, R441). -/
theorem resetBlock_eq (s : State) :
    resetBlock s = { State.resetWith s.cfg with
      clock := s.clock, clockReads := s.clockReads, bus := s.bus, inputs := s.inputs,
      readData := s.readData, trace := .portWrite 0xFF#8 :: s.trace } := rfl

@[simp] theorem resetBlock_cfg (s : State) : (resetBlock s).cfg = s.cfg := rfl

@[simp] theorem resetBlock_slice (s : State) : (resetBlock s).slice = none := rfl

end Sys2Proof.Machine
end

