-- ==== Sys2Proof/Laws/Families.lean ====
section
/-! SUPPORT. One specification lemma per shared operation of a family: everything the operation can do, for
the proofs about the commands that use it. -/

namespace Sys2Proof.Machine

/-! ### BusSearchEngine -/

/-- A walk changes ADDR_OUT, the transport and the record of its slots only, at most three slots a
position (R222, R225). -/
theorem walk_frame (n p k : Nat) (last0 : Option Nat) (s : State) :
    ∃ slots, (walk n p k last0 s).2 = { s with
        addrOut := (walk n p k last0 s).2.addrOut, bus := (walk n p k last0 s).2.bus,
        trace := slots ++ s.trace } ∧ slots.length ≤ 3 * n := by
  induction n generalizing p k last0 s with
  | zero => exact ⟨[], rfl, by simp⟩
  | succ n ih =>
    have step : ∀ (k' : Nat) (l' : Option Nat) (d : Bool), ∃ slots,
        (walk n (p + 1) k' l' (chooseBit p d s.busReadBit.2.busReadBit.2)).2 = { s with
          addrOut := (walk n (p + 1) k' l' (chooseBit p d s.busReadBit.2.busReadBit.2)).2.addrOut,
          bus := (walk n (p + 1) k' l' (chooseBit p d s.busReadBit.2.busReadBit.2)).2.bus,
          trace := slots ++ s.trace } ∧ slots.length ≤ 3 * (n + 1) := by
      intro k' l' d
      obtain ⟨slots, h, hl⟩ := ih (p + 1) k' l' (chooseBit p d s.busReadBit.2.busReadBit.2)
      refine ⟨slots ++ [.busWrite d, .busRead s.busReadBit.2.busReadBit.1,
        .busRead s.busReadBit.1], ?_, by simp; omega⟩
      rw [h]; simp [chooseBit, busReadBit_eq]
    simp only [walk]
    split
    · exact ⟨[.busRead s.busReadBit.2.busReadBit.1, .busRead s.busReadBit.1], rfl, by simp; omega⟩
    · split
      · split
        · exact ⟨[.busRead s.busReadBit.2.busReadBit.1, .busRead s.busReadBit.1], rfl,
            by simp; omega⟩
        · split <;> exact step _ _ _
      · exact step _ _ _

/-- How a call ends: FOUND and RES agree (R222). -/
theorem searchOutcome_eq (found : Bool) (s : State) :
    searchOutcome found s = { s with
      res := bitWord found, status := { s.status with found := found } } := rfl

theorem failPlain_eq (code : ErrCode) (s : State) :
    failPlain code s = { s with
      res := 0#32, status := { s.status with found := false },
      search := { s.search with errCode := code, errBytePos := 0#3, errBitMask := 0#8 } } := rfl

theorem failAt_eq (code : ErrCode) (p : Nat) (s : State) :
    failAt code p s = { s with
      res := 0#32, status := { s.status with found := false },
      search := { s.search with errCode := code, errBytePos := BitVec.ofNat 3 (p / 8),
                                errBitMask := BitVec.twoPow 8 (p % 8) } } := rfl

theorem searchSuccess_eq (last0 : Option Nat) (s : State) :
    searchSuccess last0 s = { s with
      res := 1#32, status := { s.status with found := true },
      search := { s.search with visited := nextVisited s.search.visited last0,
                                exhausted := nextVisited s.search.visited last0 == 0#32 } } := rfl

/-- The end of a complete walk: one of two outcomes, decided by the CRC (R228, R229). -/
theorem finishWalk_cases (last0 : Option Nat) (s : State) :
    (crc8 (addrPayload s.addrOut) ≠ addrByte s.addrOut 7 ∧ finishWalk last0 s = failPlain .crcMismatch s)
    ∨ (crc8 (addrPayload s.addrOut) = addrByte s.addrOut 7
        ∧ finishWalk last0 s = searchSuccess last0 s) := by
  by_cases h : crc8 (addrPayload s.addrOut) = addrByte s.addrOut 7
  · exact .inr ⟨h, by simp [finishWalk, h]⟩
  · exact .inl ⟨h, by simp [finishWalk, h]⟩

/-! ### RegulatorCore -/

/-- The three ways a regulator step can go (R263). -/
theorem regStep_cases (p : RegParams) (r : Regulator) (cur : Half) :
    (∃ y, (y = p.outMax ∧ p.largeErr < regErr r cur ∨ y = p.outMin ∧ regErr r cur < -p.largeErr)
      ∧ regStep p r cur = { reg := { r with prevInput := cur, havePrev := true,
                                            lastOut := toWord y }, out := y })
    ∨ (∃ y, (y = p.outMax ∧ halfRange p < regD p r cur ∨ y = p.outMin ∧ regD p r cur < -halfRange p)
      ∧ regErr r cur ≤ p.largeErr ∧ -p.largeErr ≤ regErr r cur
      ∧ regStep p r cur = { reg := { r with prevInput := cur, havePrev := true,
                                            deriv := toWord (regDeriv p r cur),
                                            lastOut := toWord y }, out := y })
    ∨ (regErr r cur ≤ p.largeErr ∧ -p.largeErr ≤ regErr r cur
      ∧ regD p r cur ≤ halfRange p ∧ -halfRange p ≤ regD p r cur
      ∧ regStep p r cur = { reg := { r with prevInput := cur, havePrev := true,
                                            deriv := toWord (regDeriv p r cur),
                                            integral := toWord (regIntegral p r cur),
                                            lastOut := toWord (regOutput p r cur) },
                            out := regOutput p r cur }) := by
  unfold regStep
  split
  · exact .inl ⟨_, .inl ⟨rfl, by assumption⟩, rfl⟩
  · split
    · exact .inl ⟨_, .inr ⟨rfl, by assumption⟩, rfl⟩
    · split
      · exact .inr (.inl ⟨_, .inl ⟨rfl, by assumption⟩, by omega, by omega, rfl⟩)
      · split
        · exact .inr (.inl ⟨_, .inr ⟨rfl, by assumption⟩, by omega, by omega, rfl⟩)
        · exact .inr (.inr ⟨by omega, by omega, by omega, by omega, rfl⟩)

/-- A step keeps the target and records its input (R263). -/
theorem regStep_frame (p : RegParams) (r : Regulator) (cur : Half) :
    (regStep p r cur).reg.target = r.target ∧ (regStep p r cur).reg.prevInput = cur
    ∧ (regStep p r cur).reg.havePrev = true
    ∧ (regStep p r cur).reg.lastOut = toWord (regStep p r cur).out := by
  rcases regStep_cases p r cur with ⟨y, _, h⟩ | ⟨y, _, _, _, h⟩ | ⟨_, _, _, _, h⟩ <;> simp [h]

/-! ### CascadeEngine -/

/-- A reading changes the inputs of one unit at most, and the configuration never (R301 to R303). -/
theorem processSensor_frame (u : UnitId) (v : Half) (s : State) :
    (processSensor u v s).state = { s with rad := (processSensor u v s).state.rad,
                                           boil := (processSensor u v s).state.boil } := by
  unfold processSensor
  split
  · rfl
  · rename_i role _
    split
    · rfl
    · cases role <;> (simp only [storeReading]; try split) <;> rfl

/-- The ticks, the count, the target and the trip test of a cycle (R304, R305). -/
theorem frameStep_frame (u : UnitId) (ticks : Nat) (target : Int) (input : Half) (s : State) :
    let count := failUpdate (s.cfg.frame u) (s.frame u).failCount.toNat ticks
    let t := frameStep u ticks target input s
    t = (s.setReg u (t.reg u)).setFrame u (t.frame u)
    ∧ (t.frame u).failCount = BitVec.ofNat 8 count ∧ (t.frame u).lastTicks = BitVec.ofNat 8 ticks
    ∧ (t.frame u).casTarget = toWord target ∧ (t.frame u).tripped = trips (s.cfg.frame u) count := by
  intro count t
  by_cases h : trips (s.cfg.frame u) count = true
  · have ht : t = s.setFrame u (t.frame u) := by
      simp only [t, frameStep]; rw [if_pos h]; cases u <;> rfl
    refine ⟨?_, ?_⟩
    · rw [ht]; cases u <;> rfl
    · simp only [t, frameStep]; rw [if_pos h]; simp [count]
  · refine ⟨?_, ?_⟩ <;> simp only [t, frameStep] <;> rw [if_neg h]
    · cases u <;> rfl
    · simp [count]

/-- What a cycle that trips does to the output and the regulator (R305, R306). -/
theorem frameStep_tripped (u : UnitId) (ticks : Nat) (target : Int) (input : Half) (s : State)
    (h : trips (s.cfg.frame u) (failUpdate (s.cfg.frame u) (s.frame u).failCount.toNat ticks) = true) :
    (frameStep u ticks target input s).reg u = s.reg u
    ∧ ((frameStep u ticks target input s).frame u).casOut
        = toWord (tripOut (s.cfg.frame u) (s.cfg.reg u)) := by
  simp only [frameStep]; rw [if_pos h]; simp

/-- What a cycle that does not trip does to the output and the regulator (R305, R306). -/
theorem frameStep_untripped (u : UnitId) (ticks : Nat) (target : Int) (input : Half) (s : State)
    (h : trips (s.cfg.frame u) (failUpdate (s.cfg.frame u) (s.frame u).failCount.toNat ticks) = false) :
    (frameStep u ticks target input s).reg u
      = (regStep (s.cfg.reg u) { s.reg u with target := toWord target } input).reg
    ∧ ((frameStep u ticks target input s).frame u).casOut
        = toWord (casOut (s.cfg.frame u)
            (regStep (s.cfg.reg u) { s.reg u with target := toWord target } input).out) := by
  simp only [frameStep]; rw [if_neg (by simp [h])]; simp

/-! ### ActuatorTimeSlicer -/

/-- The first stop happens or nothing does (R365). -/
theorem settleFirst_cases (s : State) :
    settleFirst s = s
    ∨ ∃ p, s.slice = some p ∧ p.firstStopped = false ∧ waitOver p.t0 p.last p.tFirst = true
        ∧ settleFirst s
          = { stopActuator p.first s with slice := some { p with firstStopped := true } } := by
  unfold settleFirst
  split
  · exact .inl rfl
  · rename_i p hp
    split
    · rename_i h
      simp only [Bool.and_eq_true, Bool.not_eq_true'] at h
      exact .inr ⟨p, hp, h.1, h.2, rfl⟩
    · exact .inl rfl

/-- The second stop and the end of the command happen or nothing does (R365). -/
theorem settleSecond_cases (s : State) :
    settleSecond s = s
    ∨ ∃ p, s.slice = some p ∧ p.firstStopped = true ∧ waitOver p.t0 p.last p.tSecond = true
        ∧ settleSecond s
          = State.result { stopActuator (otherUnit p.first) s with slice := none } p.tSecond := by
  unfold settleSecond
  split
  · exact .inl rfl
  · rename_i p hp
    split
    · rename_i h
      simp only [Bool.and_eq_true] at h
      exact .inr ⟨p, hp, h.1, h.2, rfl⟩
    · exact .inl rfl

/-- A stop changes ACT, PORT and the record of port writes only (R365). -/
theorem stopActuator_eq (u : UnitId) (s : State) :
    stopActuator u s = { s with
      act := (stopActuator u s).act, port := (stopActuator u s).act ^^^ 0xFF#8,
      trace := .portWrite ((stopActuator u s).act ^^^ 0xFF#8) :: s.trace } := rfl

/-- A step while a SLICE runs: a reset, or one reading of the counter after an advance. No host access is
taken: one that stands first stays (R110, R366, R440). -/
theorem continueSlice_cases (s : State) :
    (∃ rest, s.inputs = .reset :: rest ∧ continueSlice s = resetBlock { s with inputs := rest })
    ∨ (∃ n rest, s.inputs = .ticks n :: rest
        ∧ continueSlice s = sliceReading (State.advanceClock { s with inputs := rest } n))
    ∨ ((s.inputs = [] ∨ ∃ a l, s.inputs = .access a :: l)
        ∧ continueSlice s
          = sliceReading (s.advanceClock (Config.freeClockAdvance s.clockReads).toNat)) := by
  rcases h : s.inputs with _ | ⟨_ | _ | n, rest⟩
  · exact .inr (.inr ⟨.inl rfl, by simp [continueSlice, h]⟩)
  · exact .inr (.inr ⟨.inr ⟨_, _, rfl⟩, by simp [continueSlice, h]⟩)
  · exact .inl ⟨rest, rfl, by simp [continueSlice, h]⟩
  · exact .inr (.inl ⟨n, rest, rfl, by simp [continueSlice, h]⟩)

/-- A reading of the counter by the SLICE `p`: it is recorded and the stops that are due are made (R366). -/
theorem sliceReading_eq (s : State) (p : SliceProgress) (h : s.slice = some p) :
    sliceReading s
      = sliceSettle { s.readClock with slice := some { p with last := s.clock } } := by
  simp [sliceReading, h]

/-! ### Performing a command and one step -/

/-- A read that names a word returns its contents and changes nothing else (R181). -/
theorem hostRead_of_readWord (width offset : Nat) (v : Word) (s : State)
    (h : readWord width offset s = some v) :
    hostRead width offset s = { s with readData := v } := by
  simp [hostRead, h]

/-- A read that names none returns 0 and raises AccessFault (R181, R403). -/
theorem hostRead_of_no_word (width offset : Nat) (s : State)
    (h : readWord width offset s = none) :
    hostRead width offset s = { raiseFault .accessFault s with readData := 0#32 } := by
  simp [hostRead, h]

/-- Every command has a next state (R400, R405). -/
theorem exec_next (i : Instr) (s : State) : ∃ t, exec i s = .next t := by
  cases i <;> exact ⟨_, rfl⟩

/-- A step of a well-formed configuration is a step of the SLICE in progress or takes the next input. -/
theorem step_eq_of_wf (s : State) (h : s.cfg.wf = true) :
    step s = match s.slice with
      | some _ => .next (continueSlice s)
      | none => takeInput s := by
  cases hs : s.slice <;> simp [step, advance, h, hs]

/-- What a host access does, in the order of checks of R405. -/
theorem performAccess_write_eq (width offset : Nat) (v : Word) (s : State) :
    performAccess (.write width offset v) s = match writeTarget width offset with
      | none => .next (raiseFault .accessFault s)
      | some r => writeReg r v s := rfl

end Sys2Proof.Machine
end

