-- ==== Sys2Proof/Laws/PerInstr.lean ====
section
/-! SUPPORT. The statements made per command: the opcode and the reserved field of its word. -/

namespace Sys2Proof.Laws

/-- The opcode field of a composed word is the opcode given. -/
theorem opcField_commandWord (opc : BitVec 8) (unit : BitVec 32) (imm : BitVec 16) :
    opcField (commandWord opc unit imm) = opc := by
  apply BitVec.eq_of_getLsbD_eq
  intro i hi
  have h16 : i < 16 := by omega
  simp [opcField, commandWord, BitVec.getLsbD_shiftLeft, hi, h16]
  omega

/-- The reserved field of a composed word is 0 for both units. -/
theorem rsvField_commandWord (opc : BitVec 8) (u : UnitId) (imm : BitVec 16) :
    rsvField (commandWord opc (unitBits u) imm) = 0#6 := by
  apply BitVec.eq_of_getLsbD_eq
  intro i hi
  have h16 : 10 + i < 16 := by omega
  have h8 : opc.getLsbD (10 + i) = false := BitVec.getLsbD_of_ge _ _ (by omega)
  cases u
  · simp [rsvField, commandWord, unitBits, BitVec.getLsbD_shiftLeft, h16, h8]
  · simp [rsvField, commandWord, unitBits, BitVec.getLsbD_shiftLeft, h16, h8]
    intro
    interval_cases i <;> rfl

/-- What the family says of a command: its word carries its opcode, and its reserved field is 0. -/
def Encoding.Statement (i : Instr) : Prop :=
  opcField (encode i) = Sys2Proof.Safety.opcodeOf i ∧ rsvField (encode i) = 0#6

theorem Encoding.nop : Encoding.Statement .nop :=
  ⟨opcField_commandWord _ _ _, rsvField_commandWord _ .radiator _⟩

theorem Encoding.srchStart : Encoding.Statement .srchStart :=
  ⟨opcField_commandWord _ _ _, rsvField_commandWord _ .radiator _⟩

theorem Encoding.srchNext : Encoding.Statement .srchNext :=
  ⟨opcField_commandWord _ _ _, rsvField_commandWord _ .radiator _⟩

theorem Encoding.crcClr : Encoding.Statement .crcClr :=
  ⟨opcField_commandWord _ _ _, rsvField_commandWord _ .radiator _⟩

theorem Encoding.crcByte (byte : BitVec 8) : Encoding.Statement (.crcByte byte) :=
  ⟨opcField_commandWord _ _ _, rsvField_commandWord _ .radiator _⟩

theorem Encoding.crcAddr : Encoding.Statement .crcAddr :=
  ⟨opcField_commandWord _ _ _, rsvField_commandWord _ .radiator _⟩

theorem Encoding.decSensor (raw : BitVec 16) : Encoding.Statement (.decSensor raw) :=
  ⟨opcField_commandWord _ _ _, rsvField_commandWord _ .radiator _⟩

theorem Encoding.decTc (raw : BitVec 16) : Encoding.Statement (.decTc raw) :=
  ⟨opcField_commandWord _ _ _, rsvField_commandWord _ .radiator _⟩

theorem Encoding.regSettgt (u : UnitId) (t : BitVec 16) : Encoding.Statement (.regSettgt u t) :=
  ⟨opcField_commandWord _ _ _, rsvField_commandWord _ u _⟩

theorem Encoding.regStep (u : UnitId) (cur : BitVec 16) : Encoding.Statement (.regStep u cur) :=
  ⟨opcField_commandWord _ _ _, rsvField_commandWord _ u _⟩

theorem Encoding.regReset (u : UnitId) : Encoding.Statement (.regReset u) :=
  ⟨opcField_commandWord _ _ _, rsvField_commandWord _ u _⟩

theorem Encoding.casSensor (u : UnitId) (v : BitVec 16) : Encoding.Statement (.casSensor u v) :=
  ⟨opcField_commandWord _ _ _, rsvField_commandWord _ u _⟩

theorem Encoding.casStep (u : UnitId) : Encoding.Statement (.casStep u) :=
  ⟨opcField_commandWord _ _ _, rsvField_commandWord _ u _⟩

theorem Encoding.casGetout (u : UnitId) : Encoding.Statement (.casGetout u) :=
  ⟨opcField_commandWord _ _ _, rsvField_commandWord _ u _⟩

theorem Encoding.casGetabs (u : UnitId) : Encoding.Statement (.casGetabs u) :=
  ⟨opcField_commandWord _ _ _, rsvField_commandWord _ u _⟩

theorem Encoding.actSet (bit : BitVec 3) : Encoding.Statement (.actSet bit) :=
  ⟨opcField_commandWord _ _ _, rsvField_commandWord _ .radiator _⟩

theorem Encoding.actClr (bit : BitVec 3) : Encoding.Statement (.actClr bit) :=
  ⟨opcField_commandWord _ _ _, rsvField_commandWord _ .radiator _⟩

theorem Encoding.slice : Encoding.Statement .slice :=
  ⟨opcField_commandWord _ _ _, rsvField_commandWord _ .radiator _⟩

end Sys2Proof.Laws
end

