-- ==== Sys2Proof/Tests/Slice0.lean ====
section
/-! SUPPORT. Tests. Expected values come from the vectors of 95_test_vectors.md, named in each docstring,
or from the encoding rules; the theorems named `witness_<Name>` show states and operands that meet the
hypotheses of the statement `<Name>` together. -/

namespace Sys2Proof.Tests

open Sys2Proof.Machine Sys2Proof.Safety

/-! ### Decoding: IMM ++ RSV ++ UNIT ++ OPC of every command, written out (R141 to R145) -/

/-- Vector or rule E1. -/
theorem test_decode_nop :
    decode (0x0000#16 ++ 0b000000#6 ++ 0b00#2 ++ 0x00#8) = .ok .nop := by decide

/-- Vector or rule R221. -/
theorem test_decode_srchStart :
    decode (0x0000#16 ++ 0b000000#6 ++ 0b00#2 ++ 0x01#8) = .ok .srchStart := by decide

/-- Vector or rule E2. -/
theorem test_decode_srchNext :
    decode (0x0000#16 ++ 0b000000#6 ++ 0b00#2 ++ 0x02#8) = .ok .srchNext := by decide

/-- Vector or rule K21. -/
theorem test_decode_crcClr :
    decode (0x0000#16 ++ 0b000000#6 ++ 0b00#2 ++ 0x08#8) = .ok .crcClr := by decide

/-- Vector or rule E3. -/
theorem test_decode_crcByte :
    decode (0x00A2#16 ++ 0b000000#6 ++ 0b00#2 ++ 0x09#8) = .ok (.crcByte 0xA2#8) := by decide

/-- Vector or rule P1. -/
theorem test_decode_crcAddr :
    decode (0x0000#16 ++ 0b000000#6 ++ 0b00#2 ++ 0x0A#8) = .ok .crcAddr := by decide

/-- Vector or rule D5. -/
theorem test_decode_decSensor :
    decode (0xFC8F#16 ++ 0b000000#6 ++ 0b00#2 ++ 0x10#8) = .ok (.decSensor 0xFC8F#16) := by decide

/-- Vector or rule D16. -/
theorem test_decode_decTc :
    decode (0x7FF8#16 ++ 0b000000#6 ++ 0b00#2 ++ 0x11#8) = .ok (.decTc 0x7FF8#16) := by decide

/-- Vector or rule E6. -/
theorem test_decode_regSettgt :
    decode (0x02F0#16 ++ 0b000000#6 ++ 0b01#2 ++ 0x20#8) = .ok (.regSettgt .boiler 752#16) := by decide

/-- Vector or rule R265. -/
theorem test_decode_regStep :
    decode (0x02D0#16 ++ 0b000000#6 ++ 0b01#2 ++ 0x21#8) = .ok (.regStep .boiler 720#16) := by decide

/-- Vector or rule E20. -/
theorem test_decode_regReset :
    decode (0x0000#16 ++ 0b000000#6 ++ 0b01#2 ++ 0x22#8) = .ok (.regReset .boiler) := by decide

/-- Vector or rule E8. -/
theorem test_decode_casSensor :
    decode (0xFE20#16 ++ 0b000000#6 ++ 0b00#2 ++ 0x30#8) = .ok (.casSensor .radiator 0xFE20#16) := by decide

/-- Vector or rule C7. -/
theorem test_decode_casStep :
    decode (0x0000#16 ++ 0b000000#6 ++ 0b01#2 ++ 0x31#8) = .ok (.casStep .boiler) := by decide

/-- Vector or rule C14. -/
theorem test_decode_casGetout :
    decode (0x0000#16 ++ 0b000000#6 ++ 0b00#2 ++ 0x32#8) = .ok (.casGetout .radiator) := by decide

/-- Vector or rule C14. -/
theorem test_decode_casGetabs :
    decode (0x0000#16 ++ 0b000000#6 ++ 0b00#2 ++ 0x33#8) = .ok (.casGetabs .radiator) := by decide

/-- Vector or rule E15. -/
theorem test_decode_actSet :
    decode (0x0007#16 ++ 0b000000#6 ++ 0b00#2 ++ 0x40#8) = .ok (.actSet 7#3) := by decide

/-- Vector or rule A1. -/
theorem test_decode_actClr :
    decode (0x0002#16 ++ 0b000000#6 ++ 0b00#2 ++ 0x41#8) = .ok (.actClr 2#3) := by decide

/-- Vector or rule P2. -/
theorem test_decode_slice :
    decode (0x0000#16 ++ 0b000000#6 ++ 0b00#2 ++ 0x42#8) = .ok .slice := by decide

/-- Vectors E17, E18 and R146: opcodes not in the map. -/
theorem test_refuses_unknown_opcodes :
    decode 0x00000003#32 = .error .unknownOpcode ∧ decode 0x00000043#32 = .error .unknownOpcode
    ∧ decode 0x000000FF#32 = .error .unknownOpcode := by decide

/-- Vector E12: a reserved bit set. -/
theorem test_refuses_reserved_bits :
    decode 0x00000431#32 = .error .reservedNotZero
    ∧ decode 0x00008000#32 = .error .reservedNotZero := by decide

/-- Vectors E9, E10: UNIT 2 and 3. -/
theorem test_refuses_units_two_and_three :
    decode 0x00000231#32 = .error .unitIllegal ∧ decode 0x00000331#32 = .error .unitIllegal := by
  decide

/-- Vectors E13, E19: UNIT on a command that takes none. -/
theorem test_refuses_unit_where_none :
    decode 0x00000101#32 = .error .unitNotZero ∧ decode 0x00000142#32 = .error .unitNotZero := by
  decide

/-- Vectors E4, E11, E14, E16: an immediate, or a part of it, that must be 0. -/
theorem test_refuses_nonzero_immediates :
    decode 0x01000009#32 = .error .immediateNotZero ∧ decode 0x00010031#32 = .error .immediateNotZero
    ∧ decode 0x00010000#32 = .error .immediateNotZero
    ∧ decode 0x00080040#32 = .error .immediateNotZero := by decide

/-- R149: REG_SETTGT u1, #752 is `OPC | (u << 8) | (imm16 << 16)`. -/
theorem test_encode_regSettgt : encode (.regSettgt .boiler 752#16) = 0x02F00120#32 := by decide

/-! ### Well-formedness: one ill-formed term for each check (R15, with the types of R8 to R13) -/

/-- R450: the example configuration is well-formed. -/
theorem test_wf_accepts_d50 : Config.d50.wf = true := by decide

/-- R8, R15: SEARCH_CAP, the sensor range, and each part of a configuration. -/
theorem test_wf_refuses_machine :
    ([{ Config.d50 with searchCap := 0 }, { Config.d50 with searchCap := 33 },
      { Config.d50 with sensorMin := -32769 }, { Config.d50 with sensorMin := -32768 },
      { Config.d50 with sensorMax := 32768 }, { Config.d50 with sensorMax := -881 },
      { Config.d50 with reg0 := { RegParams.d50 with outMax := 0 } },
      { Config.d50 with reg1 := { RegParams.d50 with outMax := 0 } },
      { Config.d50 with frame0 := { FrameParams.d50 with failSat := 3 } },
      { Config.d50 with frame1 := { FrameParams.d50 with failSat := 3 } },
      { Config.d50 with rad := { Config.d50.rad with minTemp := 801 } },
      { Config.d50 with boil := { Config.d50.boil with avgDiv := 0 } },
      { Config.d50 with act := { Config.d50.act with radDown := 0 } }] : List Config).all (fun c => !c.wf) = true := by decide

/-- R9, R15. -/
theorem test_wf_refuses_regulator :
    ([{ RegParams.d50 with kp := 32768 }, { RegParams.d50 with kp := -32769 },
      { RegParams.d50 with ki := 32768 }, { RegParams.d50 with ki := -32769 },
      { RegParams.d50 with kd := 32768 }, { RegParams.d50 with kd := -32769 },
      { RegParams.d50 with outMax := 2147483648 }, { RegParams.d50 with outMax := 0 },
      { RegParams.d50 with outMin := 0 }, { RegParams.d50 with outMin := -2147483648 },
      { RegParams.d50 with largeErr := 32768 }, { RegParams.d50 with largeErr := -1 },
      { RegParams.d50 with iDiv := 0 }, { RegParams.d50 with iDiv := 32768 },
      { RegParams.d50 with iClampDiv := 0 }, { RegParams.d50 with iClampDiv := 32768 },
      { RegParams.d50 with dSmooth := 0 }, { RegParams.d50 with dSmooth := 32768 },
      { RegParams.d50 with dLimit := -1 }, { RegParams.d50 with dLimit := 2147483648 }] : List RegParams).all (fun c => !c.wf) = true := by decide

/-- R10, R15. -/
theorem test_wf_refuses_frame :
    ([{ FrameParams.d50 with failSat := 256 }, { FrameParams.d50 with failThreshold := 255 },
      { FrameParams.d50 with failSat := 3 }] : List FrameParams).all (fun c => !c.wf) = true := by decide

/-- R11, R15. -/
theorem test_wf_refuses_radiator :
    ([{ Config.d50.rad with feedAddr := Config.d50.rad.indoorAddr },
      { Config.d50.rad with outdoorAddr := Config.d50.rad.feedAddr },
      { Config.d50.rad with outdoorAddr := Config.d50.rad.indoorAddr },
      { Config.d50.rad with baseZero := 32768 }, { Config.d50.rad with outdoorK := 0 },
      { Config.d50.rad with outdoorK := 32768 },
      { Config.d50.rad with indoorTarget := 32768 },
      { Config.d50.rad with indoorGain := -32769 },
      { Config.d50.rad with minTemp := -32769 },
      { Config.d50.rad with maxTemp := 32768 }, { Config.d50.rad with minTemp := 801 },
      { Config.d50.rad with indoorDefault := -32768 },
      { Config.d50.rad with outdoorDefault := -32768 },
      { Config.d50.rad with feedFaultValue := -32768 },
      { Config.d50.rad with feedFaultGuard := 32768 },
      { Config.d50.rad with feedInit := -32768 }] : List RadParams).all (fun c => !c.wf) = true := by decide

/-- R12, R15. -/
theorem test_wf_refuses_boiler :
    ([{ Config.d50.boil with inletAddr := Config.d50.boil.outletAddr },
      { Config.d50.boil with flueAddr := Config.d50.boil.inletAddr },
      { Config.d50.boil with flueAddr := Config.d50.boil.outletAddr },
      { Config.d50.boil with minDelta := 32768 },
      { Config.d50.boil with maxDelta := 32768 },
      { Config.d50.boil with baseTarget := 32768 },
      { Config.d50.boil with outletMax := 32768 },
      { Config.d50.boil with nearDelta := -1 },
      { Config.d50.boil with nearDelta := 32768 },
      { Config.d50.boil with flueFire := 32768 }, { Config.d50.boil with gapMax := -1 },
      { Config.d50.boil with gapMax := 32768 }, { Config.d50.boil with avgDiv := 0 },
      { Config.d50.boil with avgDiv := 32768 },
      { Config.d50.boil with inletSentinel := -32768 },
      { Config.d50.boil with outletInit := -32768 }] : List BoilParams).all (fun c => !c.wf) = true := by decide

/-- R13, R15: two equal bits. -/
theorem test_wf_refuses_actuator :
    ([{ Config.d50.act with radDown := 0 }, { Config.d50.act with boilUp := 1 },
      { Config.d50.act with boilDown := 2 }, { Config.d50.act with pump := 3 },
      { Config.d50.act with pump := 0 }] : List ActParams).all (fun c => !c.wf) = true := by decide

/-! ### One command on a small state, with D50 -/

/-- The state right after reset with D50 and the changes a vector names. -/
def start : State := State.resetWith Config.d50

/-- Unit 0 with a target, and the regulator inputs a vector names. -/
def withReg0 (target : Word) (prev : Half) (havePrev : Bool) (integral deriv last : Word) : State :=
  { start with reg0 := { target := target, prevInput := prev, havePrev := havePrev,
                         integral := integral, deriv := deriv, lastOut := last } }

/-- The two cascade outputs and ACT, as the vectors A2 give them. -/
def withOutputs (act : Byte) (out0 out1 : Int) : State :=
  { start with act := act, port := act ^^^ 0xFF#8,
               frame0 := { start.frame0 with casOut := toWord out0 },
               frame1 := { start.frame1 with casOut := toWord out1 } }

/-- R180. -/
theorem test_nop : after .nop start = start := by decide

/-- Vector S6: from an aborted session, ADDR_OUT and RES unchanged. -/
theorem test_srchStart :
    let s := { start with res := 7#32, addrOut := 0x28#64,
                          search := { start.search with errCode := .crcMismatch, visited := 5#32 } }
    let t := after .srchStart s
    t.search = start.search ∧ t.addrOut = 0x28#64 ∧ t.res = 7#32 ∧ t.status.found = false := by
  decide

/-- Vector S10: every bit forced to 0, so the address is 0 and its CRC is right. -/
theorem test_srchNext_forced_zeros :
    let s := { start with
      bus := .oracle (true :: (List.replicate 64 [false, true]).flatten) 0 }
    let t := after .srchNext s
    t.addrOut = 0#64 ∧ t.res = 1#32 ∧ t.status.found = true ∧ t.search.exhausted = true := by
  decide +kernel

/-- Vector S7: an injected (1, 1) at position 13 of the walk to FEED_ADDR. -/
theorem test_srchNext_conflict :
    let pair (d : Bool) := [d, !d]
    let s := { start with bus := .oracle (true :: ((List.range 13).flatMap
      (fun p => pair (Config.d50.rad.feedAddr.getLsbD p)) ++ [true, true])) 0 }
    let t := after .srchNext s
    searchWord t.search = 0x00200103#32 ∧ t.addrOut = 0x128#64 ∧ t.res = 0#32 := by decide +kernel

/-- Vector K21. -/
theorem test_crcClr : (after .crcClr { start with crcAcc := 0xA2#8 }).crcAcc = 0#8 := by decide

/-- Vector K2, its second byte: 01 after 28. -/
theorem test_crcByte :
    let t := after (.crcByte 0x01#8) { start with crcAcc := 0xE1#8 }
    t.crcAcc = 0xE9#8 ∧ t.res = 0xE9#32 := by decide

/-- Vector K15. -/
theorem test_crcAddr_feed :
    let t := after .crcAddr { start with addrIn := 0x2900000000000128#64, crcAcc := 0x77#8 }
    t.crcAcc = 0x29#8 ∧ t.res = 1#32 ∧ statusWord t.status = 0x200#32 := by decide +kernel

/-- Vector K17: A[0] bit 0 flipped. -/
theorem test_crcAddr_flipped :
    let t := after .crcAddr { start with addrIn := 0x2900000000000129#64 }
    t.crcAcc = 0x14#8 ∧ t.res = 0#32 ∧ t.status.crcOk = false := by decide +kernel

/-- Vectors D4, D6: both ends of the range. -/
theorem test_decSensor_ends :
    (after (.decSensor 0xFC90#16) start).res = 0xFFFFFC90#32
    ∧ (after (.decSensor 0x07D0#16) start).res = 0x000007D0#32 := by decide

/-- Vectors D5, D7: just outside it. -/
theorem test_decSensor_outside :
    (after (.decSensor 0xFC8F#16) start).res = 0xFFFF8000#32
    ∧ (after (.decSensor 0x07D1#16) start).res = 0xFFFF8000#32
    ∧ (after (.decSensor 0x07D1#16) start).status.valid = false := by decide

/-- Vectors D14, D16: the low bits ignored; the largest value. -/
theorem test_decTc_values :
    (after (.decTc 0x0C83#16) start).res = 0x640#32
    ∧ (after (.decTc 0x7FF8#16) start).res = 0x3FFC#32
    ∧ (after (.decTc 0x7FF8#16) start).status.valid = true := by decide

/-- Vectors D17, D19. -/
theorem test_decTc_open :
    (after (.decTc 0x0004#16) start).res = 0xFFFF8000#32
    ∧ (after (.decTc 0x8000#16) start).res = 0xFFFF8000#32 := by decide

/-- Vector G16. -/
theorem test_regSettgt :
    let t := after (.regSettgt .boiler 752#16) start
    readWord 32 0x080 t = some 0x2F0#32 ∧ t.reg0 = start.reg0 ∧ t.res = 0#32 := by decide

/-- Vector G14, its second step: the normal law with a derivative. -/
theorem test_regStep_law :
    let t := after (.regStep .radiator 860#16) (withReg0 700#32 700#16 true 0#32 0#32 0#32)
    t.res = 1290#32 ∧ t.reg0.integral = 10#32 ∧ t.reg0.deriv = 640#32 := by decide

/-- Vector G12: the snap keeps INTEGRAL and DERIV. -/
theorem test_regStep_snap :
    let t := after (.regStep .radiator 861#16) (withReg0 700#32 720#16 true 2#32 30#32 112#32)
    t.res = 10000#32 ∧ t.reg0.integral = 2#32 ∧ t.reg0.deriv = 30#32 ∧ t.reg0.prevInput = 861#16 := by
  decide

/-- Vector G15. -/
theorem test_regReset :
    let t := after (.regReset .radiator) (withReg0 700#32 710#16 true 0#32 40#32 80#32)
    t.reg0.target = 700#32 ∧ t.reg0.prevInput = 710#16 ∧ t.reg0.havePrev = false
    ∧ t.reg0.deriv = 0#32 ∧ t.reg0.lastOut = 0#32 := by decide

/-- Vector C1: no match, and an address of the other unit. -/
theorem test_casSensor_no_match :
    (after (.casSensor .radiator 720#16) { start with addrIn := 0x0807060504030201#64 }).res = 0#32
    ∧ (after (.casSensor .radiator 720#16)
        { start with addrIn := 0xC200000000000428#64 }).rad = start.rad := by decide

/-- Vector C4: the fault signature is discarded below the guard and real above it. -/
theorem test_casSensor_signature :
    let s := { start with addrIn := 0x2900000000000128#64 }
    (after (.casSensor .radiator 1360#16) s).res = 2#32
    ∧ (after (.casSensor .radiator 1360#16)
        { s with rad := { s.rad with feed := 1000#16 } }).rad.feed = 1360#16 := by decide

/-- Vector C2. -/
theorem test_casStep_radiator :
    let t := after (.casStep .radiator)
      { start with rad := { start.rad with feed := 720#16, freshFeed := true } }
    t.res = 1#32 ∧ t.frame0.failCount = 0#8 ∧ t.frame0.casTarget = 640#32
    ∧ t.frame0.casOut.toInt = -325 ∧ t.reg0.integral = 5#32 ∧ t.rad.freshFeed = false := by decide

/-- Vector C9. -/
theorem test_casStep_boiler_pump_stop :
    let t := after (.casStep .boiler)
      { start with boil := { start.boil with
          flue := 320#16, flueValid := true, inlet := 720#16, freshIn := true, outlet := 768#16,
          freshOut := true, avg := 800#16, avgValid := true } }
    t.frame1.casTarget = 752#32 ∧ t.boil.pumpOn = false ∧ t.act = 0x00#8 ∧ t.port = 0xFF#8
    ∧ t.frame1.casOut = 130#32 ∧ t.boil.avg = 796#16 ∧ t.boil.inlet.toInt = -1600 := by decide

/-- Vector C14. -/
theorem test_casGetout : (after (.casGetout .radiator) (withOutputs 0#8 (-10000) 0)).res = 0xFFFFD8F0#32 := by
  decide

/-- Vector C14. -/
theorem test_casGetabs : (after (.casGetabs .radiator) (withOutputs 0#8 (-10000) 0)).res = 0x2710#32 := by
  decide

/-- Vector A1. -/
theorem test_actSet :
    let t := after (.actSet 4#3) start
    t.act = 0x10#8 ∧ t.port = 0xEF#8 ∧ t.trace = [.portWrite 0xEF#8, .portWrite 0xFF#8] := by decide

/-- Vector A1. -/
theorem test_actClr :
    let t := after (.actClr 2#3) { start with act := 0x16#8 }
    t.act = 0x12#8 ∧ t.port = 0xED#8 := by decide

/-- Vectors A2a, the first port write and the schedule that follows, and A2b, three port writes of one
value at once. -/
theorem test_slice_begins :
    let t := after .slice (withOutputs 0x10#8 (-10000) 130)
    let u := after .slice (withOutputs 0x00#8 0 0)
    t.act = 0x16#8 ∧ t.port = 0xE9#8
    ∧ t.slice = some { t0 := 0#32, last := 0#32, first := .boiler, tFirst := 130#32,
                       tSecond := 10000#32, firstStopped := false }
    ∧ u.slice = none ∧ u.res = 0#32
    ∧ portWrites u.trace = [0xFF#8, 0xFF#8, 0xFF#8, 0xFF#8] := by decide

/-- Vector A3: the wait across the wrap of the counter ends at 0x00000100. -/
theorem test_slice_wrap :
    let s := after .slice { withOutputs 0x00#8 512 0 with clock := 0xFFFFFF00#32 }
    (continueSlice { s with inputs := [.ticks 511] }).slice.isSome = true
    ∧ (continueSlice { s with inputs := [.ticks 512] }).slice = none
    ∧ (continueSlice { s with inputs := [.ticks 512] }).res = 512#32 := by decide

/-- Vectors F5 to F8: what raises AccessFault on a read returns 0. -/
theorem test_reads_of_no_word :
    readWord 32 0x000 start = none ∧ readWord 8 0x004 start = none
    ∧ readWord 32 0x02C start = none ∧ readWord 32 0x006 start = none
    ∧ statusWord (hostRead 32 0x02C start).status = 0x21#32 := by decide

/-- Vector Z1: the words that are not 0 right after reset. -/
theorem test_reset_words :
    readWord 32 0x028 start = some 0xFF00#32 ∧ readWord 32 0x058 start = some 0xFFFFF9C0#32
    ∧ readWord 32 0x068 start = some 0x150#32 ∧ readWord 32 0x098 start = some 0xFFFFF9C0#32
    ∧ readWord 32 0x0A8 start = some 0xFFFFF9C0#32
    ∧ readWord 32 0x0AC start = some 0xFFFFF9C0#32 := by decide

/-! ### Witnesses: states and operands that meet the hypotheses of the statements -/

/-- `start` with the world's next inputs. -/
def startWith (l : List Input) : State := { start with inputs := l }

/-- The faulted block (R401) with the world's next inputs. -/
def faultedWith (l : List Input) : State :=
  { startWith l with status := { start.status with fault := true, faultCode := .illegalCommand } }

theorem witness_DecodableWordIsItsEncoding :
    decode 0x02F00120#32 = .ok (.regSettgt .boiler 752#16) := by decide

theorem witness_DecodeAcceptsExactlyTheTableRows :
    (∃ row ∈ matchMaskRows, 0x02F00120#32 &&& row.2 = row.1)
    ∧ ¬ ∃ row ∈ matchMaskRows, 0x00000231#32 &&& row.2 = row.1 := by decide

theorem witness_StepRunsTheDecodedCommand :
    let s := startWith [.access (.write 32 0x000 0x00000131#32)]
    s.cfg.wf = true ∧ s.slice = none ∧ s.status.fault = false
    ∧ s.inputs = .access (.write 32 0x000 0x00000131#32) :: []
    ∧ decode 0x00000131#32 = .ok (.casStep .boiler) := by decide

theorem witness_PlacedWordRunsNext :
    start.cfg.wf = true ∧ start.status.fault = false
    ∧ decodeTableWord 32 0x00070040 = some (.actSet 7#3) := by decide

theorem witness_WordOutsideTheTableRaisesIllegalCommand :
    let s := startWith [.access (.write 32 0x000 0x00000231#32)]
    s.cfg.wf = true ∧ s.slice = none ∧ s.status.fault = false
    ∧ s.inputs = .access (.write 32 0x000 0x00000231#32) :: []
    ∧ ∀ row ∈ matchMaskRows, 0x00000231#32 &&& row.2 ≠ row.1 :=
  ⟨by decide, rfl, rfl, rfl, fun row h => by
    have all : matchMaskRows.all (fun row => decide (0x00000231#32 &&& row.2 ≠ row.1)) = true := by
      decide
    simpa using List.all_eq_true.1 all row h⟩

theorem witness_AccessToNoWordRaisesAccessFault :
    let s (a : HostAccess) := startWith [.access a]
    start.cfg.wf = true ∧ start.slice = none
    ∧ (∀ a ∈ [(8, 0x004), (32, 0x02C), (32, 0x03C), (32, 0x078), (32, 0x0B8), (32, 0x006), (32, 0x000)],
        (s (.read a.1 a.2)).inputs = .access (.read a.1 a.2) :: []
        ∧ (a.1 ≠ 32 ∨ ¬ mappedOffset a.2 ∨ a.2 = 0x000))
    ∧ ∀ a ∈ [(16, 0x000), (32, 0x004), (32, 0x014), (32, 0x00D), (32, 0x0B4)],
        (s (.write a.1 a.2 5#32)).inputs = .access (.write a.1 a.2 5#32) :: []
        ∧ (a.1 ≠ 32 ∨ ¬ writableOffset a.2) := by decide

theorem witness_MappedReadHasNoSideEffect :
    start.cfg.wf = true ∧ start.slice = none
    ∧ ∀ o ∈ [0x004, 0x028, 0x040, 0x074, 0x080, 0x0B4],
        (startWith [.access (.read 32 o)]).inputs = .access (.read 32 o) :: []
        ∧ mappedOffset o ∧ o ≠ 0x000 ∧ (readWord 32 o start).isSome = true := by decide

theorem witness_UnitWindowsReadTheirFields :
    (readWord 32 (0x040 + 0x34) start).isSome = true
    ∧ (readWord 32 (0x080 + 0x34) start).isSome = true := by decide

theorem witness_AddrInWritesReplaceOneHalf :
    start.cfg.wf = true ∧ start.slice = none ∧ start.status.fault = false
    ∧ (startWith [.access (.write 32 0x00C 0x128#32)]).inputs
        = .access (.write 32 0x00C 0x128#32) :: []
    ∧ (startWith [.access (.write 32 0x010 0x29000000#32)]).inputs
        = .access (.write 32 0x010 0x29000000#32) :: [] := by decide

theorem witness_FaultedBlockRefusesWrites :
    ∀ o ∈ [0x000, 0x00C, 0x010],
      let s := faultedWith [.access (.write 32 o 0x40040#32)]
      s.cfg.wf = true ∧ s.slice = none ∧ s.status.fault = true
      ∧ s.inputs = .access (.write 32 o 0x40040#32) :: [] ∧ writableOffset o := by decide

theorem witness_OnlyResetLeavesTheFaultedState :
    let s := faultedWith [.access (.read 32 0x008)]
    s.status.fault = true ∧ s.slice = none ∧ (∀ rest, s.inputs ≠ .reset :: rest)
    ∧ step s = .next { s with inputs := [], readData := 0x11#32 } :=
  ⟨rfl, rfl, fun _ h => by simp [faultedWith, startWith] at h, by rfl⟩

theorem witness_ResetLeavesTheTableOfResetValues : Config.d50.wf = true := by decide

/-- Both a reset of an idle block and one in the middle of a SLICE. -/
theorem witness_ResetInputRestoresEveryRegister :
    (startWith [.reset]).cfg.wf = true ∧ (startWith [.reset]).inputs = .reset :: []
    ∧ let s := { after .slice (withOutputs 0x10#8 (-10000) 130) with inputs := [.reset] }
      s.cfg.wf = true ∧ s.inputs = .reset :: [] ∧ s.slice.isSome = true := by decide

theorem witness_IdleBlockKeepsItsState :
    start.cfg.wf = true ∧ start.slice = none ∧ start.inputs = [] := by decide

theorem witness_IllFormedConfigurationIsRefused :
    ({ start with cfg := { Config.d50 with searchCap := 0 } } : State).cfg.wf = false := by decide

/-- Each clause at the ends of its range. -/
theorem witness_SensorReadingDecodes :
    start.cfg.wf = true
    ∧ (start.cfg.sensorMin ≤ (0xFC90#16).toInt ∧ (0xFC90#16).toInt ≤ start.cfg.sensorMax)
    ∧ (start.cfg.sensorMin ≤ (0x07D0#16).toInt ∧ (0x07D0#16).toInt ≤ start.cfg.sensorMax)
    ∧ (0xFC8F#16).toInt < start.cfg.sensorMin ∧ start.cfg.sensorMax < (0x07D1#16).toInt :=
  ⟨by decide, by decide, by decide, by decide, by decide⟩

theorem witness_ThermocoupleReadingDecodes :
    (0x8000#16).getLsbD 15 = true ∧ (0x0004#16).getLsbD 2 = true
    ∧ (0x7FFB#16).getLsbD 15 = false ∧ (0x7FFB#16).getLsbD 2 = false := by decide

theorem witness_CrcResidueIsZeroExactlyOnAMatch : start.crcAcc = 0#8 := by decide

theorem witness_CrcAddrDetectsEverySingleBitFlip :
    crc8 (addrPayload 0x2900000000000128#64) = addrByte 0x2900000000000128#64 7 ∧ 0 < 64 ∧ 63 < 64 := by
  decide +kernel

theorem witness_SrchNextOnADeadSessionDoesNothing :
    let aborted := { start with search := { start.search with errCode := .resetFailed } }
    let finished := { start with search := { start.search with exhausted := true } }
    aborted.search.errCode ≠ .ok ∧ finished.search.exhausted = true := by decide

theorem witness_SrchNextWithoutPresenceFails :
    let s := { start with bus := .oracle [false] 0 }
    s.search.errCode = .ok ∧ s.search.exhausted = false ∧ (transportReset s.bus).bit = false := by
  decide

/-- The pairs of vector S4, call 1: one collision at position 8, the others forced by 28 04 .. C2. -/
def pairsOfS4 : List (Bool × Bool) :=
  (List.range 64).map (fun p =>
    if p = 8 then (false, false)
    else ((0xC200000000000428#64).getLsbD p, !(0xC200000000000428#64).getLsbD p))

/-- One collision at branch 0, for both outcomes of the CRC and both clauses of the VISITED update. -/
theorem witness_SrchNextWalkResolvesAnAddress :
    let s (v : Word) := { start with bus := .oracle (true :: answersOf pairsOfS4 ++ []) 0,
                                     search := { start.search with visited := v } }
    start.cfg.wf = true ∧ start.search.errCode = .ok ∧ start.search.exhausted = false
    ∧ pairsOfS4.length = 64 ∧ (true, true) ∉ pairsOfS4
    ∧ pairsOfS4.count (false, false) = 1 ∧ 1 ≤ start.cfg.searchCap
    ∧ crc8 (addrPayload (after .srchNext (s 0#32)).addrOut)
        = addrByte (after .srchNext (s 0#32)).addrOut 7
    ∧ crc8 (addrPayload (after .srchNext (s 1#32)).addrOut)
        ≠ addrByte (after .srchNext (s 1#32)).addrOut 7 := by decide +kernel

/-- A conflict at the first and at the last position. -/
theorem witness_BothSamplesOneAbortsTheSession :
    let s (pairs : List (Bool × Bool)) :=
      { start with bus := .oracle (true :: answersOf pairs ++ true :: true :: []) 0 }
    start.cfg.wf = true ∧ start.search.errCode = .ok ∧ start.search.exhausted = false
    ∧ ∀ pairs ∈ [[], List.replicate 63 (false, true)],
        (s pairs).bus = .oracle (true :: answersOf pairs ++ true :: true :: []) 0
        ∧ pairs.length < 64 ∧ (true, true) ∉ pairs
        ∧ pairs.count (false, false) ≤ start.cfg.searchCap := by decide +kernel

/-- Vector S8: 32 collisions, then one more. -/
theorem witness_CollisionBeyondCapacityAbortsTheSession :
    let pairs := List.replicate 32 (false, false)
    let s := { start with bus := .oracle (true :: answersOf pairs ++ false :: false :: []) 0 }
    s.cfg.wf = true ∧ s.search.errCode = .ok ∧ s.search.exhausted = false
    ∧ s.bus = .oracle (true :: answersOf pairs ++ false :: false :: []) 0
    ∧ pairs.length < 64 ∧ (true, true) ∉ pairs
    ∧ pairs.count (false, false) = s.cfg.searchCap := by decide +kernel

/-- The ideal bus with the two devices of vector S4. -/
def busOfS4 : IdealBus :=
  { devices := [0x2900000000000128#64, 0xC200000000000428#64], active := [], commandBits := 8,
    pos := 0, complementNext := false }

theorem witness_IdealBusIsEnumerated :
    let s := { start with bus := .ideal busOfS4 }
    s.cfg.wf = true ∧ s.bus = .ideal busOfS4 ∧ busOfS4.devices ≠ [] ∧ busOfS4.devices.Nodup
    ∧ busOfS4.devices.length ≤ s.cfg.searchCap + 1
    ∧ ∀ d ∈ busOfS4.devices, crc8 (addrPayload d) = addrByte d 7 :=
  ⟨by decide, rfl, by decide +kernel, by decide +kernel, by decide, fun d h => by
    have all : busOfS4.devices.all (fun d => decide (crc8 (addrPayload d) = addrByte d 7)) = true := by
      decide +kernel
    simpa using List.all_eq_true.1 all d h⟩

/-- The large-error clauses and the normal clause at their boundary (vectors G2 to G5), and the derivative
clauses (vectors G7, G8). -/
theorem witness_RegStepFollowsTheControlLaw :
    let p := start.cfg.reg .radiator
    let d (r : Regulator) (cur : Half) := Int.tdiv (r.deriv.toInt * (p.dSmooth - 1)
      + p.kd * (cur.toInt - r.prevInput.toInt)) p.dSmooth
    let half := Int.tdiv (p.outMax - p.outMin) 2
    let up := (withReg0 3300#32 700#16 true 0#32 0#32 0#32).reg0
    let down := (withReg0 700#32 3300#16 true 0#32 0#32 0#32).reg0
    start.cfg.wf = true
    ∧ p.largeErr < (161#16).toInt - start.reg0.target.toInt
    ∧ (160#16).toInt - start.reg0.target.toInt ≤ p.largeErr
    ∧ (0xFF5F#16).toInt - start.reg0.target.toInt < -p.largeErr
    ∧ -p.largeErr ≤ (0xFF60#16).toInt - start.reg0.target.toInt
    ∧ half < d up 3300#16 ∧ d down 700#16 < -half
    ∧ -half ≤ d up 3200#16 ∧ d up 3200#16 ≤ half := by decide

theorem witness_RegStepKeepsItsRanges :
    start.cfg.wf = true ∧ RegulatorBounded (start.cfg.reg .boiler) (start.reg .boiler) := by decide

/-- Vector G6, from the highest integral. -/
theorem witness_RepeatedStepsKeepTheIntegralClamped :
    let s := withReg0 0#32 160#16 true 5000#32 0#32 5640#32
    s.cfg.wf = true ∧ integralMin (s.cfg.reg .radiator) ≤ (s.reg .radiator).integral.toInt
    ∧ (s.reg .radiator).integral.toInt ≤ integralMax (s.cfg.reg .radiator)
    ∧ (issues (.regStep .radiator 160#16) 3 s).length = 3 := by decide

/-- Each clause: no match; the sentinel; the fault signature below and at the guard; the other roles. -/
theorem witness_RadiatorReadingIsRouted :
    let p := start.cfg.rad
    let s (a : DeviceAddress) (feed : Half) :=
      { start with addrIn := a, rad := { start.rad with feed := feed } }
    start.cfg.wf = true
    ∧ (start.addrIn ≠ p.feedAddr ∧ start.addrIn ≠ p.indoorAddr ∧ start.addrIn ≠ p.outdoorAddr)
    ∧ (s p.feedAddr 0#16).addrIn = p.feedAddr ∧ (0x8000#16).toInt = -32768
    ∧ (0x8001#16).toInt ≠ -32768 ∧ (1360#16).toInt = p.feedFaultValue
    ∧ (s p.feedAddr 959#16).rad.feed.toInt < p.feedFaultGuard
    ∧ p.feedFaultGuard ≤ (s p.feedAddr 960#16).rad.feed.toInt
    ∧ (1359#16).toInt ≠ p.feedFaultValue
    ∧ (s p.indoorAddr 0#16).addrIn = p.indoorAddr
    ∧ (s p.outdoorAddr 0#16).addrIn = p.outdoorAddr := by decide

/-- Each clause: no match; the sentinel; the three roles. -/
theorem witness_BoilerReadingIsRouted :
    let p := start.cfg.boil
    let s (a : DeviceAddress) := { start with addrIn := a }
    start.cfg.wf = true
    ∧ (start.addrIn ≠ p.inletAddr ∧ start.addrIn ≠ p.outletAddr ∧ start.addrIn ≠ p.flueAddr)
    ∧ (0x8000#16).toInt = -32768 ∧ (0x8001#16).toInt ≠ -32768
    ∧ (s p.inletAddr).addrIn = p.inletAddr ∧ (s p.outletAddr).addrIn = p.outletAddr
    ∧ (s p.flueAddr).addrIn = p.flueAddr := by decide

/-- A cycle at the threshold does not trip and the next one does (vector C5). -/
theorem witness_RadiatorStepFollowsItsPolicy :
    let s (n : Byte) := { start with frame0 := { start.frame0 with failCount := n } }
    start.cfg.wf = true
    ∧ (after (.casStep .radiator) (s 2#8)).frame0.tripped = false
    ∧ (after (.casStep .radiator) (s 3#8)).frame0.tripped = true := by decide

/-- The state of vector C9 with a given outlet average: the pump stops at the average and not below it. -/
def boilerCycle (avg : Half) : State :=
  { start with boil := { start.boil with
      flue := 320#16, flueValid := true, inlet := 720#16, freshIn := true, outlet := 768#16,
      freshOut := true, avg := avg, avgValid := true } }

/-- Every clause: the stop condition met and not (vector C10), tripped and not (vector C7), a fresh outlet
with and without an average, and none. -/
theorem witness_BoilerStepFollowsItsPolicy :
    start.cfg.wf = true
    ∧ (after (.casStep .boiler) (boilerCycle 768#16)).boil.pumpOn = false
    ∧ (after (.casStep .boiler) (boilerCycle 767#16)).boil.pumpOn = true
    ∧ (after (.casStep .boiler) (boilerCycle 767#16)).frame1.tripped = false
    ∧ (after (.casStep .boiler)
        { start with frame1 := { start.frame1 with failCount := 2#8 } }).frame1.tripped = true
    ∧ (boilerCycle 768#16).boil.freshOut = true ∧ (boilerCycle 768#16).boil.avgValid = true
    ∧ start.boil.freshOut = false ∧ start.boil.avgValid = false := by decide

theorem witness_RadiatorTripsAfterTheThreshold :
    start.cfg.wf = true ∧ start.frame0.failCount = 0#8 ∧ start.rad.freshFeed = false
    ∧ ∀ k ∈ [2, 3], (issues (.casStep .radiator) 5 start)[k]?.isSome = true := by decide

theorem witness_BoilerTripsAfterTheThreshold :
    start.cfg.wf = true ∧ start.frame1.failCount = 0#8 ∧ start.boil.freshIn = false
    ∧ start.boil.freshOut = false ∧ (issues (.casStep .boiler) 5 start)[3]?.isSome = true
    ∧ start.cfg.frame1.failThreshold ≤ 3 := by decide

theorem witness_RollingAverageLiesBetween :
    (boilerCycle 800#16).cfg.wf = true ∧ (boilerCycle 800#16).boil.avgValid = true
    ∧ (boilerCycle 800#16).boil.freshOut = true := by decide

/-- Two valves to drive, and none. -/
theorem witness_SliceAssertsBothDirections :
    let s := withOutputs 0x10#8 (-1) 1
    s.cfg.wf = true ∧ s.frame0.casOut.toInt ≠ 0 ∧ s.frame1.casOut.toInt ≠ 0
    ∧ (withOutputs 0x10#8 0 0).frame0.casOut.toInt = 0
    ∧ (withOutputs 0x10#8 0 0).frame1.casOut.toInt = 0 := by decide

/-- Vector A2a with the ticks of its schedule. -/
theorem witness_SliceRunsItsSchedule :
    let s := { withOutputs 0x10#8 (-10000) 130 with
      inputs := [.access (.write 32 0x000 0x00000042#32), .ticks 130, .ticks 9870] }
    s.cfg.wf = true ∧ s.slice = none ∧ s.status.fault = false
    ∧ s.inputs = .access (.write 32 0x000 0x00000042#32)
        :: .ticks (min s.frame0.casOut.toInt.natAbs s.frame1.casOut.toInt.natAbs)
        :: .ticks (max s.frame0.casOut.toInt.natAbs s.frame1.casOut.toInt.natAbs
            - min s.frame0.casOut.toInt.natAbs s.frame1.casOut.toInt.natAbs) :: [] := by decide

/-- The SLICE of vector A2a in progress, with the clock's next inputs. -/
def inSlice (l : List Input) : State :=
  { after .slice (withOutputs 0x10#8 (-10000) 130) with inputs := l }

/-- Its progress. -/
def progressOfA2a : SliceProgress :=
  { t0 := 0#32, last := 0#32, first := .boiler, tFirst := 130#32, tSecond := 10000#32,
    firstStopped := false }

/-- The SLICE `p` in progress with the inputs `l`, before a reading without ticks that will show the counter
`c`, whatever the free advance is. -/
def beforeFreeReading (p : SliceProgress) (c : Word) (l : List Input) : State :=
  { start with slice := some p, clock := c - Config.freeClockAdvance 0, inputs := l }

theorem beforeFreeReading_reads (p : SliceProgress) (c : Word) (l : List Input) :
    (beforeFreeReading p c l).clock + BitVec.ofNat 32 (Config.freeClockAdvance 0).toNat = c := by
  simp [beforeFreeReading]

/-- A host access, or nothing, stands next: the counter moves by the free advance. -/
theorem beforeFreeReading_advances (p : SliceProgress) (c : Word) (l : List Input)
    (h : l = [] ∨ ∃ a r, l = .access a :: r) :
    ReadingAdvances (beforeFreeReading p c l) (Config.freeClockAdvance 0).toNat l :=
  .inr ⟨rfl, rfl, h⟩

/-- One tick before the end of the wait, with ticks, with a host access and with nothing standing next. -/
theorem witness_SliceWaitsUntilTheCounterReaches :
    let s := inSlice [.ticks 129]
    let p := progressOfA2a
    s.cfg.wf = true ∧ s.slice = some p ∧ ReadingAdvances s 129 []
    ∧ (s.clock + BitVec.ofNat 32 129 - p.t0).toNat
        < (if p.firstStopped then p.tSecond else p.tFirst).toNat
    ∧ ∀ l ∈ [[], [.access (.write 32 0x00C 5#32)]],
        let f := beforeFreeReading p 129#32 l
        let n := (Config.freeClockAdvance 0).toNat
        f.cfg.wf = true ∧ f.slice = some p ∧ ReadingAdvances f n l
        ∧ (f.clock + BitVec.ofNat 32 n - p.t0).toNat
            < (if p.firstStopped then p.tSecond else p.tFirst).toNat := by
  refine ⟨by decide, rfl, .inl rfl, by decide, fun l hl => ?_⟩
  have wf : start.cfg.wf = true := by decide
  refine ⟨wf, rfl, beforeFreeReading_advances _ _ _ ?_, ?_⟩
  · rcases List.mem_cons.1 hl with h | h
    · exact .inl h
    · exact .inr ⟨_, _, List.mem_singleton.1 h⟩
  · rw [beforeFreeReading_reads]; decide

/-- Each clause at the reading that reaches the end of its wait and at one that passes it; the free reading
with a host access standing next; and what the last clause asks. -/
theorem witness_SliceStopsAtTheReadingThatReaches :
    let p := progressOfA2a
    let q := { p with firstStopped := true }
    let d (n : Nat) := ((inSlice [.ticks n]).clock + BitVec.ofNat 32 n - p.t0).toNat
    (inSlice []).cfg.wf = true ∧ (inSlice []).slice = some p
    ∧ (∀ n, ReadingAdvances (inSlice [.ticks n]) n [])
    ∧ p.firstStopped = false ∧ q.firstStopped = true
    ∧ (p.tFirst.toNat ≤ d 130 ∧ d 130 < p.tSecond.toNat)
    ∧ (p.tFirst.toNat ≤ d 9999 ∧ d 9999 < p.tSecond.toNat)
    ∧ p.tSecond.toNat ≤ d 10000 ∧ p.tSecond.toNat ≤ d 10001
    ∧ SliceAgrees (inSlice [])
    ∧ (∀ c a, let f := beforeFreeReading q c [.access a]
        let n := (Config.freeClockAdvance 0).toNat
        f.slice = some q ∧ ReadingAdvances f n [.access a] ∧ f.clock + BitVec.ofNat 32 n = c) :=
  ⟨by decide, rfl, fun _ => .inl rfl, rfl, rfl, by decide, by decide, by decide, by decide,
    ⟨rfl, rfl, rfl, rfl, by decide, by decide +kernel, by decide +kernel⟩,
    fun c a => ⟨rfl, beforeFreeReading_advances _ c _ (.inr ⟨a, [], rfl⟩),
      beforeFreeReading_reads _ c _⟩⟩

/-- What `SliceAgrees` says of the SLICE of vector A2a, whatever the inputs. -/
theorem inSlice_agrees (l : List Input) : SliceAgrees (inSlice l) :=
  have h : SliceDrives (inSlice []) progressOfA2a .radiator
      ∧ SliceDrives (inSlice []) progressOfA2a .boiler := by decide +kernel
  ⟨rfl, rfl, rfl, rfl, by decide, h.1, h.2⟩

theorem witness_StoppedClockKeepsSliceWaiting :
    let s := inSlice [.ticks 0, .ticks 0]
    s.cfg.wf = true ∧ SliceAgrees s ∧ s.slice = some progressOfA2a ∧ progressOfA2a.last = s.clock
    ∧ s.inputs = List.replicate 2 (.ticks 0) ++ [] :=
  ⟨by decide, inSlice_agrees _, rfl, rfl, rfl⟩

theorem witness_RegulatorHasFourWriters :
    exec (.casStep .boiler) start = .next (after (.casStep .boiler) start)
    ∧ Instr.casStep .boiler ≠ .casStep .radiator := ⟨rfl, by decide⟩

theorem witness_ActHasFourWriters :
    exec (.casStep .radiator) start = .next (after (.casStep .radiator) start)
    ∧ exec (.casStep .boiler) start = .next (after (.casStep .boiler) start) := ⟨rfl, rfl⟩

theorem witness_StatusAndSearchFieldsHaveTheirWriters :
    exec (.crcByte 0x28#8) start = .next (after (.crcByte 0x28#8) start) := rfl

theorem witness_UnitsDoNotInterfere :
    exec (.casStep .boiler) start = .next (after (.casStep .boiler) start) := rfl

/-- The invariant in the middle of a SLICE, and the step that stops the boiler valve. -/
theorem witness_StepKeepsTheInvariant :
    Inv (inSlice [.ticks 130])
    ∧ step (inSlice [.ticks 130]) = .next (continueSlice (inSlice [.ticks 130])) :=
  ⟨{ port := by decide
     faultCode := by decide
     regulator0 := by decide
     regulator1 := by decide
     output0 := show _ ∧ _ from by decide +kernel
     output1 := show _ ∧ _ from by decide +kernel
     failCount0 := by decide
     failCount1 := by decide
     search := ⟨by decide, by decide, fun h => absurd h (by decide), by decide⟩
     found := by decide
     inputs := by decide
     slice := inSlice_agrees _ }, rfl⟩

end Sys2Proof.Tests
end

section
/-! PROOFS. The scope of the model: when a step is refused. -/

namespace Sys2Proof.Proofs

open Sys2Proof.Machine

/-- A configuration that is not well formed takes the refusing branch of `step` (R15), whatever the
rest of the state: the counterpart of `step_eq_of_wf`. -/
theorem step_eq_of_not_wf (s : State) (h : s.cfg.wf = false) :
    step s = .refused .illFormedConfiguration :=
  if_neg (ne_true_of_eq_false h)

/-- Settles O18, by the guard of `step`. -/
theorem illFormedConfigurationIsRefused : Obligations.IllFormedConfigurationIsRefused :=
  step_eq_of_not_wf

end Sys2Proof.Proofs
end

section
/-! PROOFS. What each command leaves, and the frames of the shared operations: which registers a call of
the search, a cascade cycle and a SLICE can change at all. -/

namespace Sys2Proof.Proofs

open Sys2Proof.Machine Sys2Proof.Safety

/-! ### The state each command leaves -/

/-- A command always runs to the state `after` names (R400). -/
theorem exec_eq_after (i : Instr) (s : State) : exec i s = .next (after i s) := by
  cases i <;> rfl

theorem eq_after_of_exec {i : Instr} {s t : State} (h : exec i s = .next t) : t = after i s := by
  rw [exec_eq_after] at h
  exact (Host.Outcome.next.inj h).symm

@[simp] theorem after_nop (s : State) : after .nop s = s := rfl

@[simp] theorem after_srchStart (s : State) :
    after .srchStart s = State.setFound { s with search :=
      { visited := 0#32, errCode := .ok, exhausted := false, errBytePos := 0#3,
        errBitMask := 0#8 } } false := rfl

@[simp] theorem after_srchNext (s : State) : after .srchNext s = searchNext s := rfl

@[simp] theorem after_crcClr (s : State) : after .crcClr s = { s with crcAcc := 0#8 } := rfl

@[simp] theorem after_crcByte (b : BitVec 8) (s : State) :
    after (.crcByte b) s = State.result { s with crcAcc := crc8Step s.crcAcc b }
      ((crc8Step s.crcAcc b).zeroExtend 32) := rfl

@[simp] theorem after_crcAddr (s : State) :
    after .crcAddr s = (State.setCrcOk { s with crcAcc := crc8 (addrPayload s.addrIn) }
        (crc8 (addrPayload s.addrIn) == addrByte s.addrIn 7)).result
      (bitWord (crc8 (addrPayload s.addrIn) == addrByte s.addrIn 7)) := rfl

@[simp] theorem after_decSensor (raw : BitVec 16) (s : State) :
    after (.decSensor raw) s = decoded (sensorValue s.cfg raw) s := rfl

@[simp] theorem after_decTc (raw : BitVec 16) (s : State) :
    after (.decTc raw) s = decoded (thermocoupleValue raw) s := rfl

@[simp] theorem after_regSettgt (u : UnitId) (v : BitVec 16) (s : State) :
    after (.regSettgt u v) s = s.setReg u { s.reg u with target := toWord (simm v) } := rfl

@[simp] theorem after_regStep (u : UnitId) (v : BitVec 16) (s : State) :
    after (.regStep u v) s = (s.setReg u (regStep (s.cfg.reg u) (s.reg u) v).reg).result
      (toWord (regStep (s.cfg.reg u) (s.reg u) v).out) := rfl

@[simp] theorem after_regReset (u : UnitId) (s : State) :
    after (.regReset u) s = s.setReg u { s.reg u with
      integral := 0#32, deriv := 0#32, lastOut := 0#32, havePrev := false } := rfl

@[simp] theorem after_casSensor (u : UnitId) (v : BitVec 16) (s : State) :
    after (.casSensor u v) s = (processSensor u v s).state.result (processSensor u v s).code := rfl

@[simp] theorem after_casStep (u : UnitId) (s : State) :
    after (.casStep u) s
      = (cascadeStep u s).result (bitWord (!((cascadeStep u s).frame u).tripped)) := rfl

@[simp] theorem cascadeStep_radiator (s : State) : cascadeStep .radiator s = radStep s := rfl

@[simp] theorem cascadeStep_boiler (s : State) : cascadeStep .boiler s = boilStep s := rfl

@[simp] theorem after_casGetout (u : UnitId) (s : State) :
    after (.casGetout u) s = s.result (s.frame u).casOut := rfl

@[simp] theorem after_casGetabs (u : UnitId) (s : State) :
    after (.casGetabs u) s = s.result (toWord (iabs (s.casOutValue u))) := rfl

@[simp] theorem after_actSet (b : BitVec 3) (s : State) :
    after (.actSet b) s = s.writeAct (setBit s.act (bitIndex b) true) := rfl

@[simp] theorem after_actClr (b : BitVec 3) (s : State) :
    after (.actClr b) s = s.writeAct (setBit s.act (bitIndex b) false) := rfl

@[simp] theorem after_slice (s : State) : after .slice s = sliceSettle (sliceBegin s) := rfl

/-! ### What the shared operations leave unchanged -/

/-- A decoder writes RES and VALID (R192, R194). -/
theorem decoded_eq (v : Half) (s : State) :
    decoded v s = { s with
      res := sext32 v, status := { s.status with valid := v != invalidTemp } } := rfl

/-- A call of the search changes RES, FOUND, ADDR_OUT, the SearchState, the transport and the record of
its slots at most (R222). -/
def SearchFrame (s t : State) : Prop :=
  t = { s with
    res := t.res, status := { s.status with found := t.status.found }, addrOut := t.addrOut,
    search := t.search, bus := t.bus, trace := t.trace }

theorem SearchFrame.eq {s t : State} (h : SearchFrame s t) :
    t = { s with
      res := t.res, status := { s.status with found := t.status.found }, addrOut := t.addrOut,
      search := t.search, bus := t.bus, trace := t.trace } := h

theorem SearchFrame.trans {s t r : State} (h : SearchFrame s t) (h' : SearchFrame t r) :
    SearchFrame s r :=
  Eq.trans h' (by rw [h])

/-- The walk of a call that a device answered, after the command byte: how it ends and the state it leaves
(R225). -/
def commandedWalk (s : State) : WalkEnd × State :=
  walk 64 0 0 none (s.busWriteByte s.cfg.searchRomCmd)

theorem commandedWalk_frame (s : State) :
    (commandedWalk s).2 = { s with
      addrOut := (commandedWalk s).2.addrOut, bus := (commandedWalk s).2.bus,
      trace := (commandedWalk s).2.trace } := by
  obtain ⟨slots, h, -⟩ := walk_frame 64 0 0 none (s.busWriteByte s.cfg.searchRomCmd)
  unfold commandedWalk
  rw [h, busWriteByte_eq]

theorem searchWalk_cases (s : State) :
    (∃ code p, (commandedWalk s).1 = .conflict code p
      ∧ searchWalk s = failAt code p (commandedWalk s).2)
    ∨ (∃ last0, (commandedWalk s).1 = .complete last0
      ∧ searchWalk s = finishWalk last0 (commandedWalk s).2) := by
  unfold searchWalk commandedWalk
  split <;> rename_i hw <;> rw [hw]
  · exact .inl ⟨_, _, rfl, rfl⟩
  · exact .inr ⟨_, rfl, rfl⟩

theorem searchFrame_finishWalk (last0 : Option Nat) (s : State) :
    SearchFrame s (finishWalk last0 s) := by
  rcases finishWalk_cases last0 s with ⟨-, h⟩ | ⟨-, h⟩ <;> rw [h] <;> rfl

theorem searchFrame_searchWalk (s : State) : SearchFrame s (searchWalk s) := by
  have hwalk : SearchFrame s (commandedWalk s).2 := by
    unfold SearchFrame
    rw [commandedWalk_frame]
  rcases searchWalk_cases s with ⟨code, p, -, h⟩ | ⟨last0, -, h⟩ <;> rw [h]
  · exact hwalk.trans rfl
  · exact hwalk.trans (searchFrame_finishWalk _ _)

/-- The two ways a call on a live session can go after its bus reset (R224). -/
theorem searchLive_eq (s : State) :
    searchLive s =
      if (State.busReset { s with addrOut := 0#64 }).1
      then searchWalk (State.busReset { s with addrOut := 0#64 }).2
      else failPlain .resetFailed (State.busReset { s with addrOut := 0#64 }).2 := rfl

theorem searchFrame_searchLive (s : State) : SearchFrame s (searchLive s) := by
  have hreset : SearchFrame s (State.busReset { s with addrOut := 0#64 }).2 := rfl
  rw [searchLive_eq]
  split
  · exact hreset.trans (searchFrame_searchWalk _)
  · exact hreset.trans rfl

theorem searchFrame_searchNext (s : State) : SearchFrame s (searchNext s) := by
  unfold searchNext
  split
  · exact searchFrame_searchLive s
  · rfl

/-- A cascade cycle of the radiator changes registers of unit 0 only (R313). -/
theorem radStep_frame (s : State) :
    radStep s = { s with
      reg0 := (radStep s).reg0, frame0 := (radStep s).frame0, rad := (radStep s).rad } := by
  have h (k : Nat) (g : Int) (x : Half) := (frameStep_frame .radiator k g x s).1
  unfold radStep
  rw [h]
  rfl

/-- The frame's part of a boiler cycle (R325). -/
def boilCycleFrame (s : State) : State :=
  frameStep .boiler (boilTicks s.cfg.boil s.boil) (boilTarget s.cfg.boil s.boil)
    (boilInlet s.cfg.boil s.boil) s

/-- The pump's state in a boiler cycle: it stops on the pump-stop condition unless the unit trips (R325). -/
def boilCyclePump (s : State) : Bool :=
  (boilCycleFrame s).frame1.tripped || !pumpStop s.cfg.boil s.boil

/-- The boiler's own registers after a cycle (R325 to R327). -/
def boilCycleInputs (s : State) : Boiler :=
  boilEndCycle s.cfg.boil { s.boil with
    current := boilInlet s.cfg.boil s.boil, guard := gapGuard s.cfg.boil s.boil,
    pumpOn := boilCyclePump s }

/-- A cascade cycle of the boiler: the frame's part, the boiler's own registers, and one write of ACT with
the pump's bit (R325). -/
theorem boilStep_eq (s : State) :
    boilStep s = State.writeAct { boilCycleFrame s with boil := boilCycleInputs s }
      (setBit (boilCycleFrame s).act s.cfg.act.pump.val (boilCyclePump s)) := by
  simp only [boilStep, boilCycleInputs, boilCyclePump, boilCycleFrame, State.writeAct,
    State.portWrite]

theorem boilCycleFrame_eq (s : State) :
    boilCycleFrame s = { s with
      reg1 := (boilCycleFrame s).reg1, frame1 := (boilCycleFrame s).frame1 } :=
  (frameStep_frame .boiler _ _ _ s).1

/-- A cascade cycle of the boiler changes registers of unit 1, ACT and the port only (R325). -/
theorem boilStep_frame (s : State) :
    boilStep s = { s with
      reg1 := (boilStep s).reg1, frame1 := (boilStep s).frame1, boil := (boilStep s).boil,
      act := (boilStep s).act, port := (boilStep s).act ^^^ 0xFF#8,
      trace := .portWrite ((boilStep s).act ^^^ 0xFF#8) :: s.trace } := by
  rw [boilStep_eq, boilCycleFrame_eq]
  rfl

/-- What SLICE can change of the block: RES, ACT, PORT and its own progress, beside the readings and the
port writes it records (R365, R366). -/
def SliceFrame (s t : State) : Prop :=
  t = { s with
    res := t.res, act := t.act, port := t.port, slice := t.slice, clockReads := t.clockReads,
    trace := t.trace }

theorem SliceFrame.eq {s t : State} (h : SliceFrame s t) :
    t = { s with
      res := t.res, act := t.act, port := t.port, slice := t.slice, clockReads := t.clockReads,
      trace := t.trace } := h

theorem SliceFrame.trans {s t r : State} (h : SliceFrame s t) (h' : SliceFrame t r) :
    SliceFrame s r :=
  Eq.trans h' (by rw [h])

theorem sliceFrame_settleFirst (s : State) : SliceFrame s (settleFirst s) := by
  rcases settleFirst_cases s with h | ⟨p, -, -, -, h⟩ <;> rw [h] <;> rfl

theorem sliceFrame_settleSecond (s : State) : SliceFrame s (settleSecond s) := by
  rcases settleSecond_cases s with h | ⟨p, -, -, -, h⟩ <;> rw [h] <;> rfl

theorem sliceFrame_sliceSettle (s : State) : SliceFrame s (sliceSettle s) :=
  (sliceFrame_settleFirst s).trans (sliceFrame_settleSecond _)

theorem sliceFrame_slice (s : State) : SliceFrame s (sliceSettle (sliceBegin s)) :=
  SliceFrame.trans (show SliceFrame s (sliceBegin s) from rfl) (sliceFrame_sliceSettle _)

theorem sliceFrame_sliceReading (s : State) : SliceFrame s (sliceReading s) := by
  unfold sliceReading
  split
  · rfl
  · rename_i p _
    have hread : SliceFrame s { s.readClock with slice := some { p with last := s.clock } } := rfl
    exact hread.trans (sliceFrame_sliceSettle _)

/-- Stopping an actuator leaves the port the complement of ACT (R361, R365). -/
theorem portIsComplement_sliceSettle {s : State} (h : PortIsComplement s) :
    PortIsComplement (sliceSettle s) := by
  have hfirst : PortIsComplement (settleFirst s) := by
    rcases settleFirst_cases s with heq | ⟨p, -, -, -, heq⟩ <;> rw [heq]
    · exact h
    · rfl
  unfold sliceSettle
  rcases settleSecond_cases (settleFirst s) with heq | ⟨p, -, -, -, heq⟩ <;> rw [heq]
  · exact hfirst
  · rfl

end Sys2Proof.Proofs
end

section
/-! PROOFS. Which commands write which registers: the regulators, ACT and the port, the fields of STATUS,
ADDR_OUT, the SearchState and CRC_ACC. -/

namespace Sys2Proof.Proofs

open Sys2Proof.Machine Sys2Proof.Safety

/-! ### The regulators -/

theorem reg_congr {s t : State} (h0 : t.reg0 = s.reg0) (h1 : t.reg1 = s.reg1) (u : UnitId) :
    t.reg u = s.reg u := by
  cases u with
  | radiator => exact h0
  | boiler => exact h1

/-- A cascade cycle of one unit keeps the regulator of the other (R308). -/
theorem cascadeStep_reg_of_ne {u w : UnitId} (hne : w ≠ u) (s : State) :
    (cascadeStep u s).reg w = s.reg w := by
  cases u with
  | radiator =>
    obtain rfl : w = .boiler := by cases w with
      | radiator => exact absurd rfl hne
      | boiler => rfl
    rw [cascadeStep_radiator, radStep_frame]
    rfl
  | boiler =>
    obtain rfl : w = .radiator := by cases w with
      | radiator => rfl
      | boiler => exact absurd rfl hne
    rw [cascadeStep_boiler, boilStep_frame]
    rfl

/-- Settles O54: the four writers replace the regulator of the unit they name, and every other command's
frame leaves both regulators out. -/
theorem regulatorHasFourWriters : Obligations.RegulatorHasFourWriters := by
  intro i s t u h hsettgt hstep hreset hcas
  obtain rfl := eq_after_of_exec h
  cases i with
  | regSettgt w v => exact State.setReg_reg_of_ne s _ fun hw => hsettgt v (hw ▸ rfl)
  | regStep w v =>
    rw [after_regStep, State.result_reg]
    exact State.setReg_reg_of_ne s _ fun hw => hstep v (hw ▸ rfl)
  | regReset w => exact State.setReg_reg_of_ne s _ fun hw => hreset (hw ▸ rfl)
  | casStep w =>
    rw [after_casStep, State.result_reg]
    exact cascadeStep_reg_of_ne (fun hw : u = w => hcas (hw ▸ rfl)) s
  | srchNext =>
    rw [after_srchNext, (searchFrame_searchNext s).eq]
    exact reg_congr rfl rfl u
  | casSensor w v =>
    rw [after_casSensor, processSensor_frame]
    exact reg_congr rfl rfl u
  | slice =>
    rw [after_slice, (sliceFrame_slice s).eq]
    exact reg_congr rfl rfl u
  | _ => exact reg_congr rfl rfl u

/-! ### ACT and the port -/

/-- Only ACT_SET, ACT_CLR, SLICE and CAS_STEP of unit 1 write ACT and the port (R44). -/
theorem after_act_of_not_writer {i : Instr} (s : State) (hset : ∀ b, i ≠ .actSet b)
    (hclr : ∀ b, i ≠ .actClr b) (hslice : i ≠ .slice) (hcas : i ≠ .casStep .boiler) :
    (after i s).act = s.act ∧ (after i s).port = s.port := by
  cases i with
  | actSet b => exact absurd rfl (hset b)
  | actClr b => exact absurd rfl (hclr b)
  | slice => exact absurd rfl hslice
  | casStep u => cases u with
    | radiator =>
      rw [after_casStep, cascadeStep_radiator, radStep_frame]
      exact ⟨rfl, rfl⟩
    | boiler => exact absurd rfl hcas
  | srchNext =>
    rw [after_srchNext, (searchFrame_searchNext s).eq]
    exact ⟨rfl, rfl⟩
  | casSensor u v =>
    rw [after_casSensor, processSensor_frame]
    exact ⟨rfl, rfl⟩
  | regSettgt u v | regStep u v | regReset u => cases u <;> exact ⟨rfl, rfl⟩
  | _ => exact ⟨rfl, rfl⟩

/-- Settles O55: the other commands' frames leave ACT and the port out, and each writer of ACT ends with a
port write of its complement (R361). -/
theorem actHasFourWriters : Obligations.ActHasFourWriters := by
  intro i s t h
  obtain rfl := eq_after_of_exec h
  refine ⟨after_act_of_not_writer s, ?_⟩
  rintro (⟨b, rfl | rfl⟩ | rfl | rfl)
  · rfl
  · rfl
  · exact portIsComplement_sliceSettle rfl
  · rfl

/-! ### STATUS, ADDR_OUT, the SearchState and CRC_ACC -/

/-- The commands of the search, the CRC and the decoders: those that write a field of STATUS, ADDR_OUT, the
SearchState or CRC_ACC (R33, R35, R36, R38). -/
def writesStatusOrSearch : Instr → Bool
  | .srchStart | .srchNext | .crcClr | .crcByte _ | .crcAddr | .decSensor _ | .decTc _ => true
  | _ => false

/-- The registers of the search, the CRC and the decoders, and the transport. -/
structure SameStatusAndSearch (s t : State) : Prop where
  status : t.status = s.status
  search : t.search = s.search
  addrOut : t.addrOut = s.addrOut
  bus : t.bus = s.bus
  crcAcc : t.crcAcc = s.crcAcc

theorem sameStatusAndSearch_after {i : Instr} (hi : writesStatusOrSearch i = false) (s : State) :
    SameStatusAndSearch s (after i s) := by
  cases i with
  | srchStart | srchNext | crcClr | crcByte b | crcAddr | decSensor raw | decTc raw =>
    exact nomatch hi
  | casSensor u v => rw [after_casSensor, processSensor_frame]; constructor <;> rfl
  | casStep u =>
    cases u with
    | radiator => rw [after_casStep, cascadeStep_radiator, radStep_frame]; constructor <;> rfl
    | boiler => rw [after_casStep, cascadeStep_boiler, boilStep_frame]; constructor <;> rfl
  | slice => rw [after_slice, (sliceFrame_slice s).eq]; constructor <;> rfl
  | regSettgt u v | regStep u v | regReset u => cases u <;> constructor <;> rfl
  | _ => constructor <;> rfl

/-- Settles O56: the commands of the three families write what their frames name, and the others none of
these registers. -/
theorem statusAndSearchFieldsHaveTheirWriters :
    Obligations.StatusAndSearchFieldsHaveTheirWriters := by
  intro i s t h
  obtain rfl := eq_after_of_exec h
  cases hi : writesStatusOrSearch i with
  | false =>
    obtain ⟨hstatus, hsearch, haddr, hbus, hacc⟩ := sameStatusAndSearch_after hi s
    simp [hstatus, hsearch, haddr, hbus, hacc]
  | true =>
    cases i with
    | srchNext => rw [after_srchNext, (searchFrame_searchNext s).eq]; simp
    | srchStart | crcClr | crcByte b | crcAddr | decSensor raw | decTc raw => simp [decoded_eq]
    | _ => exact nomatch hi

end Sys2Proof.Proofs
end

section
/-! PROOFS. What a well-formed configuration gives (R15), and the ranges that follow from it: of truncated
division, of a regulator step, of a cascade cycle's count and output, of the rolling average. -/

namespace Sys2Proof.Proofs

open Sys2Proof.Machine Sys2Proof.Safety

/-! ### A well-formed configuration -/

theorem wf_searchCap_le {c : Config} (h : c.wf = true) : c.searchCap ≤ 32 := by
  simp only [Config.wf, Bool.and_eq_true, decide_eq_true_eq] at h
  omega

theorem wf_reg {c : Config} (h : c.wf = true) (u : UnitId) : (c.reg u).wf = true := by
  simp only [Config.wf, Bool.and_eq_true] at h
  cases u <;> simp [Config.reg, h]

theorem wf_frame {c : Config} (h : c.wf = true) (u : UnitId) : (c.frame u).wf = true := by
  simp only [Config.wf, Bool.and_eq_true] at h
  cases u <;> simp [Config.frame, h]

theorem wf_rad {c : Config} (h : c.wf = true) : c.rad.wf = true := by
  simp only [Config.wf, Bool.and_eq_true] at h
  simp [h]

theorem wf_boil {c : Config} (h : c.wf = true) : c.boil.wf = true := by
  simp only [Config.wf, Bool.and_eq_true] at h
  simp [h]

theorem wf_act {c : Config} (h : c.wf = true) : c.act.wf = true := by
  simp only [Config.wf, Bool.and_eq_true] at h
  simp [h]

theorem regParams_outputRange {p : RegParams} (h : p.wf = true) :
    -2147483648 < p.outMin ∧ p.outMin < 0 ∧ 0 < p.outMax ∧ p.outMax ≤ 2147483647 := by
  simp only [RegParams.wf, isInt32, Bool.and_eq_true, decide_eq_true_eq] at h
  omega

theorem regParams_divisors {p : RegParams} (h : p.wf = true) :
    1 ≤ p.iClampDiv ∧ 1 ≤ p.dSmooth ∧ 0 ≤ p.dLimit ∧ p.dLimit ≤ 2147483647 := by
  simp only [RegParams.wf, isInt32, Bool.and_eq_true, decide_eq_true_eq] at h
  omega

theorem frameParams_range {p : FrameParams} (h : p.wf = true) :
    p.failSat ≤ 255 ∧ p.failThreshold < p.failSat := by
  simpa [FrameParams.wf] using h

/-! ### Truncated division by a positive number -/

theorem le_tdiv_of_mul_le {m n d : Int} (hd : 0 < d) (h : m * d ≤ n) : m ≤ tdiv n d :=
  calc m = (m * d).tdiv d := (Int.mul_tdiv_cancel m hd.ne').symm
    _ ≤ n.tdiv d := Int.tdiv_le_tdiv hd h

theorem tdiv_le_of_le_mul {m n d : Int} (hd : 0 < d) (h : n ≤ m * d) : tdiv n d ≤ m :=
  calc n.tdiv d ≤ (m * d).tdiv d := Int.tdiv_le_tdiv hd h
    _ = m := Int.mul_tdiv_cancel m hd.ne'

/-- A weighted mean truncated toward zero stays between the two values (R326). -/
theorem tdiv_weightedMean_mem {a x d : Int} (hd : 1 ≤ d) :
    min a x ≤ tdiv (a * (d - 1) + x) d ∧ tdiv (a * (d - 1) + x) d ≤ max a x := by
  have hlow : 0 ≤ (a - min a x) * (d - 1) := mul_nonneg (by omega) (by omega)
  have hhigh : 0 ≤ (max a x - a) * (d - 1) := mul_nonneg (by omega) (by omega)
  have hmin : min a x ≤ x := min_le_right a x
  have hmax : x ≤ max a x := le_max_right a x
  exact ⟨le_tdiv_of_mul_le (by omega) (by linarith), tdiv_le_of_le_mul (by omega) (by linarith)⟩

/-! ### The rolling average -/

/-- A rolling average lies between the old average and the new value, so it needs no more than 16 bits
(R31, R326). -/
theorem avgUpdate_mem {p : BoilParams} (hp : p.wf = true) {b : Boiler} (hvalid : b.avgValid = true)
    (x : Half) :
    min b.avg.toInt x.toInt ≤ (avgUpdate p b x).toInt
    ∧ (avgUpdate p b x).toInt ≤ max b.avg.toInt x.toInt := by
  have hdiv : 1 ≤ p.avgDiv := by
    simp only [BoilParams.wf, Bool.and_eq_true, decide_eq_true_eq] at hp
    omega
  obtain ⟨hlow, hhigh⟩ := tdiv_weightedMean_mem (a := b.avg.toInt) (x := x.toInt) hdiv
  have havg := And.intro b.avg.le_toInt b.avg.toInt_lt
  have hx := And.intro x.le_toInt x.toInt_lt
  rw [avgUpdate, if_pos hvalid, toInt_toHalf _ (by omega) (by omega)]
  exact ⟨hlow, hhigh⟩

/-- Settles O47: with a fresh outlet the cycle's average is `AvgUpdate(OUTLET)` (R326). -/
theorem rollingAverageLiesBetween : Obligations.RollingAverageLiesBetween := by
  intro s hwf hvalid hfresh
  refine ⟨after (.casStep .boiler) s, exec_eq_after _ s, ?_⟩
  have havg : (after (.casStep .boiler) s).boil.avg = avgUpdate s.cfg.boil s.boil s.boil.outlet := by
    rw [after_casStep, cascadeStep_boiler, boilStep_eq]
    exact if_pos hfresh
  rw [havg]
  exact avgUpdate_mem (wf_boil hwf) hvalid _

/-! ### A regulator step -/

/-- The clamp range of INTEGRAL holds 0 and lies within the output range (R262). -/
theorem integralRange {p : RegParams} (hp : p.wf = true) :
    p.outMin ≤ integralMin p ∧ integralMin p ≤ 0 ∧ 0 ≤ integralMax p ∧ integralMax p ≤ p.outMax := by
  obtain ⟨-, hmin, hmax, -⟩ := regParams_outputRange hp
  obtain ⟨hdiv, -, -, -⟩ := regParams_divisors hp
  refine ⟨le_tdiv_of_mul_le (by omega) ?_, tdiv_le_of_le_mul (by omega) (by omega),
    le_tdiv_of_mul_le (by omega) (by omega), tdiv_le_of_le_mul (by omega) ?_⟩
  · nlinarith
  · nlinarith

theorem regIntegral_mem {p : RegParams} (hp : p.wf = true) (r : Regulator) (cur : Half) :
    integralMin p ≤ regIntegral p r cur ∧ regIntegral p r cur ≤ integralMax p := by
  obtain ⟨-, hmin, hmax, -⟩ := integralRange hp
  exact ⟨le_clamp _ _ _ (by omega), clamp_le _ _ _ (by omega)⟩

theorem regDeriv_mem {p : RegParams} (hp : p.wf = true) (r : Regulator) (cur : Half) :
    -p.dLimit ≤ regDeriv p r cur ∧ regDeriv p r cur ≤ p.dLimit := by
  obtain ⟨-, -, hlimit, -⟩ := regParams_divisors hp
  exact ⟨le_clamp _ _ _ (by omega), clamp_le _ _ _ (by omega)⟩

/-- The output of the normal law is in range, averaged with a LAST_OUT in range or not (R268). -/
theorem regOutput_mem {p : RegParams} (hp : p.wf = true) {r : Regulator} (hr : RegulatorBounded p r)
    (cur : Half) : p.outMin ≤ regOutput p r cur ∧ regOutput p r cur ≤ p.outMax := by
  obtain ⟨-, hmin, hmax, -⟩ := regParams_outputRange hp
  obtain ⟨-, -, -, -, hlast, hlast'⟩ := hr
  have hlow := le_clamp (p.kp * regErr r cur + regIntegral p r cur + regDeriv p r cur) p.outMin p.outMax
    (by omega)
  have hhigh := clamp_le (p.kp * regErr r cur + regIntegral p r cur + regDeriv p r cur) p.outMin p.outMax
    (by omega)
  simp only [regOutput]
  split
  · exact ⟨le_tdiv_of_mul_le (by omega) (by omega), tdiv_le_of_le_mul (by omega) (by omega)⟩
  · exact ⟨hlow, hhigh⟩

theorem toInt_toWord_output {p : RegParams} (hp : p.wf = true) {y : Int}
    (hy : p.outMin ≤ y ∧ y ≤ p.outMax) : (toWord y).toInt = y := by
  obtain ⟨hmin, -, -, hmax⟩ := regParams_outputRange hp
  exact toInt_toWord y (by omega) (by omega)

theorem toWord_output_mem {p : RegParams} (hp : p.wf = true) {y : Int}
    (hy : p.outMin ≤ y ∧ y ≤ p.outMax) :
    p.outMin ≤ (toWord y).toInt ∧ (toWord y).toInt ≤ p.outMax := by
  rwa [toInt_toWord_output hp hy]

theorem toWord_regDeriv_mem {p : RegParams} (hp : p.wf = true) (r : Regulator) (cur : Half) :
    -p.dLimit ≤ (toWord (regDeriv p r cur)).toInt ∧ (toWord (regDeriv p r cur)).toInt ≤ p.dLimit := by
  obtain ⟨-, -, -, hlimit⟩ := regParams_divisors hp
  have hmem := regDeriv_mem hp r cur
  rwa [toInt_toWord _ (by omega) (by omega)]

theorem toWord_regIntegral_mem {p : RegParams} (hp : p.wf = true) (r : Regulator) (cur : Half) :
    integralMin p ≤ (toWord (regIntegral p r cur)).toInt
    ∧ (toWord (regIntegral p r cur)).toInt ≤ integralMax p := by
  obtain ⟨hmin, -, -, hmax⟩ := integralRange hp
  have hmem := regIntegral_mem hp r cur
  rwa [toInt_toWord_output hp (by omega)]

/-- Every regulator step keeps the ranges of the registers and returns an output in range (R268, R269). -/
theorem regStep_bounded {p : RegParams} (hp : p.wf = true) {r : Regulator} (hr : RegulatorBounded p r)
    (cur : Half) :
    RegulatorBounded p (regStep p r cur).reg
    ∧ p.outMin ≤ (regStep p r cur).out ∧ (regStep p r cur).out ≤ p.outMax := by
  obtain ⟨-, hmin, hmax, -⟩ := regParams_outputRange hp
  obtain ⟨hi, hi', hd, hd', hl, hl'⟩ := hr
  rcases regStep_cases p r cur with ⟨y, hy, h⟩ | ⟨y, hy, -, -, h⟩ | ⟨-, -, -, -, h⟩ <;> rw [h]
  · have hout : p.outMin ≤ y ∧ y ≤ p.outMax := by omega
    exact ⟨⟨hi, hi', hd, hd', toWord_output_mem hp hout⟩, hout⟩
  · have hout : p.outMin ≤ y ∧ y ≤ p.outMax := by omega
    obtain ⟨hderiv, hderiv'⟩ := toWord_regDeriv_mem hp r cur
    exact ⟨⟨hi, hi', hderiv, hderiv', toWord_output_mem hp hout⟩, hout⟩
  · have hout := regOutput_mem hp ⟨hi, hi', hd, hd', hl, hl'⟩ cur
    obtain ⟨hderiv, hderiv'⟩ := toWord_regDeriv_mem hp r cur
    obtain ⟨hint, hint'⟩ := toWord_regIntegral_mem hp r cur
    exact ⟨⟨hint, hint', hderiv, hderiv', toWord_output_mem hp hout⟩, hout⟩

theorem regulatorBounded_of_zero {p : RegParams} (hp : p.wf = true) {r : Regulator}
    (hi : r.integral = 0#32) (hd : r.deriv = 0#32) (hl : r.lastOut = 0#32) : RegulatorBounded p r := by
  obtain ⟨-, hmin, hmax, -⟩ := regParams_outputRange hp
  obtain ⟨-, himin, himax, -⟩ := integralRange hp
  obtain ⟨-, -, hlimit, -⟩ := regParams_divisors hp
  have hzero : (0#32).toInt = 0 := rfl
  refine ⟨?_, ?_, ?_, ?_, ?_, ?_⟩ <;> simp only [hi, hd, hl, hzero] <;> omega

/-! ### A cascade cycle's output and count -/

theorem outputBounded_of_casOut {q : FrameParams} {p : RegParams} (hp : p.wf = true) {y : Int}
    (hy : p.outMin ≤ y ∧ y ≤ p.outMax) {f : Frame} (hf : f.casOut = toWord (casOut q y)) :
    OutputBounded q.dirPol p f := by
  obtain ⟨hmin, -, -, hmax⟩ := regParams_outputRange hp
  unfold casOut at hf
  cases hpol : q.dirPol with
  | posUp =>
    have hread : f.casOut.toInt = y := by
      simp only [hf, hpol]; exact toInt_toWord y (by omega) (by omega)
    simpa only [OutputBounded, hread] using hy
  | posDown =>
    have hread : f.casOut.toInt = -y := by
      simp only [hf, hpol]; exact toInt_toWord (-y) (by omega) (by omega)
    simp only [OutputBounded, hread]
    omega

/-- TripOut is the output of one end of the regulator's range (R306). -/
theorem exists_casOut_eq_tripOut (q : FrameParams) {p : RegParams} (hp : p.wf = true) :
    ∃ y, (p.outMin ≤ y ∧ y ≤ p.outMax) ∧ tripOut q p = casOut q y := by
  obtain ⟨-, hmin, hmax, -⟩ := regParams_outputRange hp
  unfold tripOut casOut
  cases q.dirPol with
  | posUp => exact ⟨p.outMin, by omega, rfl⟩
  | posDown => exact ⟨p.outMax, by omega, rfl⟩

theorem failUpdate_le (q : FrameParams) (count ticks : Nat) : failUpdate q count ticks ≤ q.failSat := by
  unfold failUpdate
  split <;> omega

theorem failUpdate_eq_zero_iff {q : FrameParams} (hq : q.wf = true) (count ticks : Nat) :
    failUpdate q count ticks = 0 ↔ ticks = 0 := by
  obtain ⟨-, hthreshold⟩ := frameParams_range hq
  unfold failUpdate
  split <;> omega

/-- The count, the ticks and the trip flag of a cycle agree (R304, R305). -/
theorem failCountAgrees_of_cycle {q : FrameParams} (hq : q.wf = true) {count ticks : Nat}
    (hticks : ticks ≤ 3) {f : Frame} (hcount : f.failCount = BitVec.ofNat 8 (failUpdate q count ticks))
    (hlast : f.lastTicks = BitVec.ofNat 8 ticks)
    (htrip : f.tripped = trips q (failUpdate q count ticks)) : FailCountAgrees q f := by
  obtain ⟨hsat, -⟩ := frameParams_range hq
  have hle := failUpdate_le q count ticks
  have hcountNat : f.failCount.toNat = failUpdate q count ticks := by
    rw [hcount, BitVec.toNat_ofNat]; omega
  have hlastNat : f.lastTicks.toNat = ticks := by rw [hlast, BitVec.toNat_ofNat]; omega
  refine ⟨hcountNat ▸ hle, ?_, by omega, ?_⟩
  · rw [← BitVec.toNat_inj, ← BitVec.toNat_inj, hcountNat, hlastNat]
    exact failUpdate_eq_zero_iff hq count ticks
  · rw [htrip, hcountNat, trips, decide_eq_true_eq]

end Sys2Proof.Proofs
end

section
/-! PROOFS. The invariant, one rule for each operation of the state. -/

namespace Sys2Proof.Proofs

open Sys2Proof.Machine Sys2Proof.Safety

theorem sliceAgrees_of_none {s : State} (hs : s.slice = none) : SliceAgrees s := by
  simp only [SliceAgrees, hs]

theorem inv_regulator {s : State} (h : Inv s) (u : UnitId) :
    RegulatorBounded (s.cfg.reg u) (s.reg u) := by
  cases u with
  | radiator => exact h.regulator0
  | boiler => exact h.regulator1

theorem inv_result {s : State} (h : Inv s) (v : Word) : Inv (s.result v) := { h with }

theorem inv_setReg {s : State} (h : Inv s) {u : UnitId} {r : Regulator}
    (hr : RegulatorBounded (s.cfg.reg u) r) : Inv (s.setReg u r) := by
  cases u with
  | radiator => exact { h with regulator0 := hr }
  | boiler => exact { h with regulator1 := hr }

theorem inv_setFrame {s : State} (h : Inv s) (hs : s.slice = none) {u : UnitId} {f : Frame}
    (hout : OutputBounded (s.cfg.frame u).dirPol (s.cfg.reg u) f)
    (hcount : FailCountAgrees (s.cfg.frame u) f) : Inv (s.setFrame u f) := by
  cases u with
  | radiator => exact { h with output0 := hout, failCount0 := hcount, slice := sliceAgrees_of_none hs }
  | boiler => exact { h with output1 := hout, failCount1 := hcount, slice := sliceAgrees_of_none hs }

theorem inv_setReg_setFrame {s : State} (h : Inv s) (hs : s.slice = none) {u : UnitId} {r : Regulator}
    {f : Frame} (hr : RegulatorBounded (s.cfg.reg u) r)
    (hout : OutputBounded (s.cfg.frame u).dirPol (s.cfg.reg u) f)
    (hcount : FailCountAgrees (s.cfg.frame u) f) : Inv ((s.setReg u r).setFrame u f) := by
  have hreg := inv_setReg h hr
  cases u <;> exact inv_setFrame hreg hs hout hcount

theorem inv_writeAct {s : State} (h : Inv s) (hs : s.slice = none) (a : Byte) : Inv (s.writeAct a) :=
  { h with port := rfl, slice := sliceAgrees_of_none hs }

theorem inv_setSearch {s : State} (h : Inv s) {q : Search} {b : Bool} (hq : SearchAgrees s.cfg q)
    (hb : b = true → q.errCode = .ok) :
    Inv { s with search := q, status := { s.status with found := b } } :=
  { h with search := hq, found := hb }

theorem inv_setRad {s : State} (h : Inv s) {r : Radiator} (hfeed : r.feed ≠ invalidTemp)
    (hindoor : r.indoor ≠ invalidTemp) (houtdoor : r.outdoor ≠ invalidTemp) :
    Inv { s with rad := r } := by
  obtain ⟨-, -, -, hboil⟩ := h.inputs
  exact { h with inputs := ⟨hfeed, hindoor, houtdoor, hboil⟩ }

theorem inv_setBoil {s : State} (h : Inv s) {b : Boiler} (hcurrent : b.current ≠ invalidTemp)
    (hinlet : b.inlet ≠ invalidTemp) (houtlet : b.outlet ≠ invalidTemp) (hflue : b.flue ≠ invalidTemp) :
    Inv { s with boil := b } := by
  obtain ⟨hfeed, hindoor, houtdoor, -⟩ := h.inputs
  exact { h with inputs := ⟨hfeed, hindoor, houtdoor, hcurrent, hinlet, houtlet, hflue⟩ }

theorem inv_raiseFault {s : State} (h : Inv s) (hs : s.slice = none) {code : FaultCode}
    (hcode : code ≠ .none) : Inv (raiseFault code s) := by
  have hagrees : FaultCodeAgrees (raiseFault code s) := by
    unfold raiseFault
    split
    · exact h.faultCode
    · exact iff_of_true rfl hcode
  rw [raiseFault_eq] at hagrees ⊢
  exact { h with faultCode := hagrees, slice := sliceAgrees_of_none hs }

theorem inv_setReadData {s : State} (h : Inv s) (v : Word) : Inv { s with readData := v } := { h with }

theorem inv_setInputs {s : State} (h : Inv s) (l : List Input) : Inv { s with inputs := l } := { h with }

theorem inv_setAddrIn {s : State} (h : Inv s) (a : DeviceAddress) : Inv { s with addrIn := a } :=
  { h with }

theorem inv_advanceClock {s : State} (h : Inv s) (n : Nat) : Inv (s.advanceClock n) := { h with }

theorem inv_setSlots {s : State} (h : Inv s) (a : DeviceAddress) (t : Transport) (l : List Event) :
    Inv { s with addrOut := a, bus := t, trace := l } := { h with }

/-! ### Reset -/

theorem ofInt_ne_invalidTemp {v : Int} (hv : isTemp v = true) : BitVec.ofInt 16 v ≠ invalidTemp := by
  simp only [isTemp, isInt16, Bool.and_eq_true, decide_eq_true_eq] at hv
  obtain ⟨hrange, hne⟩ := hv
  intro heq
  have hread : (BitVec.ofInt 16 v).toInt = v := toInt_toHalf v (by omega) (by omega)
  rw [heq] at hread
  exact hne hread.symm

theorem frame_reset_agrees {q : FrameParams} : FailCountAgrees q Frame.reset := by
  simp [FailCountAgrees, Frame.reset]

theorem outputBounded_reset {q : FrameParams} {p : RegParams} (hp : p.wf = true) :
    OutputBounded q.dirPol p Frame.reset := by
  obtain ⟨-, hmin, hmax, -⟩ := regParams_outputRange hp
  refine outputBounded_of_casOut (q := q) (y := 0) hp (by omega) ?_
  unfold casOut
  cases q.dirPol <;> rfl

theorem radParams_temps {p : RadParams} (h : p.wf = true) :
    isTemp p.indoorDefault = true ∧ isTemp p.outdoorDefault = true ∧ isTemp p.feedInit = true := by
  simp only [RadParams.wf, Bool.and_eq_true] at h
  simp [h]

theorem boilParams_temps {p : BoilParams} (h : p.wf = true) :
    isTemp p.inletSentinel = true ∧ isTemp p.outletInit = true := by
  simp only [BoilParams.wf, Bool.and_eq_true] at h
  simp [h]

/-- The reset values meet the invariant, for every well-formed configuration (R441). -/
theorem inv_resetWith {c : Config} (hc : c.wf = true) : Inv (State.resetWith c) := by
  obtain ⟨hindoor, houtdoor, hfeed⟩ := radParams_temps (wf_rad hc)
  obtain ⟨hinlet, houtlet⟩ := boilParams_temps (wf_boil hc)
  exact
    { port := (by decide : (0xFF#8 : Byte) = 0x00#8 ^^^ 0xFF#8)
      faultCode := iff_of_false Bool.false_ne_true (not_not_intro rfl)
      regulator0 := regulatorBounded_of_zero (wf_reg hc .radiator) rfl rfl rfl
      regulator1 := regulatorBounded_of_zero (wf_reg hc .boiler) rfl rfl rfl
      output0 := outputBounded_reset (q := c.frame0) (wf_reg hc .radiator)
      output1 := outputBounded_reset (q := c.frame1) (wf_reg hc .boiler)
      failCount0 := frame_reset_agrees
      failCount1 := frame_reset_agrees
      search := by simp [SearchAgrees, State.resetWith]
      found := nofun
      inputs := ⟨ofInt_ne_invalidTemp hfeed, ofInt_ne_invalidTemp hindoor,
        ofInt_ne_invalidTemp houtdoor, ofInt_ne_invalidTemp hinlet, ofInt_ne_invalidTemp hinlet,
        ofInt_ne_invalidTemp houtlet, (by decide : (0#16 : Half) ≠ invalidTemp)⟩
      slice := trivial }

theorem inv_resetBlock {s : State} (hwf : s.cfg.wf = true) : Inv (resetBlock s) := by
  have h := inv_resetWith hwf
  rw [resetBlock_eq]
  exact { h with }

end Sys2Proof.Proofs
end

section
/-! PROOFS. The search keeps the invariant: VISITED stays within SEARCH_CAP bits, and the conflict record,
EXHAUSTED and FOUND agree with ERR_CODE (R222 to R229). -/

namespace Sys2Proof.Proofs

open Sys2Proof.Machine Sys2Proof.Safety

theorem sessionLive_iff (q : Search) :
    sessionLive q = true ↔ q.errCode = .ok ∧ q.exhausted = false := by
  simp [sessionLive]

/-! ### The SearchState -/

/-- VISITED below the deepest branch-0 collision, with that collision's bit: within SEARCH_CAP bits
(R229). -/
theorem nextVisited_lt {cap : Nat} (hcap : cap ≤ 32) (v : BitVec 32) {last0 : Option Nat}
    (hlast : ∀ l ∈ last0, l < cap) : (nextVisited v last0).toNat < 2 ^ cap := by
  cases last0 with
  | none => exact Nat.two_pow_pos cap
  | some l =>
    have hl : l < cap := hlast l rfl
    have hpow : 2 ^ l < 2 ^ cap := Nat.pow_lt_pow_right (by decide) hl
    have hword : 2 ^ l < 2 ^ 32 := Nat.pow_lt_pow_right (by decide) (by omega)
    have hbit : (BitVec.twoPow 32 l).toNat = 2 ^ l := by
      rw [BitVec.toNat_twoPow, Nat.mod_eq_of_lt hword]
    have hmask : (BitVec.twoPow 32 l - 1#32).toNat < 2 ^ cap := by
      have hpos := Nat.two_pow_pos l
      rw [BitVec.toNat_sub_of_le (by rw [BitVec.le_def, hbit]; exact hpos), hbit]
      omega
    rw [nextVisited, BitVec.toNat_or, BitVec.toNat_and]
    exact Nat.or_lt_two_pow (Nat.and_lt_two_pow _ hmask) (hbit ▸ hpow)

theorem searchAgrees_start (c : Config) :
    SearchAgrees c { visited := 0#32, errCode := .ok, exhausted := false, errBytePos := 0#3,
                     errBitMask := 0#8 } :=
  ⟨Nat.two_pow_pos _, nofun, fun h => absurd h (by decide), fun _ => ⟨rfl, rfl⟩⟩

theorem searchAgrees_failPlain {c : Config} {q : Search} (hq : SearchAgrees c q)
    (hlive : q.exhausted = false) {code : ErrCode} (hcode : ¬ isConflict code) :
    SearchAgrees c { q with errCode := code, errBytePos := 0#3, errBitMask := 0#8 } := by
  obtain ⟨hvisited, -, -, -⟩ := hq
  exact ⟨hvisited, fun h => absurd h (ne_true_of_eq_false hlive), fun h => absurd h hcode,
    fun _ => ⟨rfl, rfl⟩⟩

theorem searchAgrees_failAt {c : Config} {q : Search} (hq : SearchAgrees c q)
    (hlive : q.exhausted = false) {code : ErrCode} (hcode : isConflict code) (p : Nat) :
    SearchAgrees c { q with
      errCode := code, errBytePos := BitVec.ofNat 3 (p / 8),
      errBitMask := BitVec.twoPow 8 (p % 8) } := by
  obtain ⟨hvisited, -, -, -⟩ := hq
  exact ⟨hvisited, fun h => absurd h (ne_true_of_eq_false hlive),
    fun _ => ⟨p % 8, Nat.mod_lt p (by decide), rfl⟩, fun h => absurd hcode h⟩

theorem searchAgrees_success {c : Config} (hcap : c.searchCap ≤ 32) {q : Search}
    (hq : SearchAgrees c q) (hok : q.errCode = .ok) {last0 : Option Nat}
    (hlast : ∀ l ∈ last0, l < c.searchCap) :
    SearchAgrees c { q with
      visited := nextVisited q.visited last0,
      exhausted := nextVisited q.visited last0 == 0#32 } := by
  obtain ⟨-, -, hconflict, hplain⟩ := hq
  exact ⟨nextVisited_lt hcap _ hlast, fun h => ⟨eq_of_beq h, hok⟩, hconflict, hplain⟩

/-! ### The walk -/

/-- How a walk may end: with a conflict's code, or with a collision ordinal below SEARCH_CAP (R225 to
R227). -/
def WalkEndAgrees (cap : Nat) : WalkEnd → Prop
  | .conflict code _ => isConflict code
  | .complete last0 => ∀ l ∈ last0, l < cap

theorem walk_endAgrees (n p k : Nat) (last0 : Option Nat) (s : State)
    (hlast : ∀ l ∈ last0, l < s.cfg.searchCap) :
    WalkEndAgrees s.cfg.searchCap (walk n p k last0 s).1 := by
  induction n generalizing p k last0 s with
  | zero => exact hlast
  | succ n ih =>
    simp only [walk]
    split
    · exact .inr rfl
    · split
      · split
        · exact .inl rfl
        · rename_i hcap
          have hk : ∀ l ∈ some k, l < s.cfg.searchCap := by
            rintro l ⟨⟩
            exact Nat.lt_of_not_le hcap
          split
          · exact ih _ _ _ (chooseBit p true s.busReadBit.2.busReadBit.2) hlast
          · exact ih _ _ _ (chooseBit p false s.busReadBit.2.busReadBit.2) hk
      · exact ih _ _ _ (chooseBit p s.busReadBit.1 s.busReadBit.2.busReadBit.2) hlast

/-! ### The calls -/

theorem inv_failPlain {s : State} (h : Inv s) (hlive : s.search.exhausted = false) {code : ErrCode}
    (hcode : ¬ isConflict code) : Inv (failPlain code s) :=
  inv_result (inv_setSearch (b := false) h (searchAgrees_failPlain h.search hlive hcode) nofun) _

theorem inv_failAt {s : State} (h : Inv s) (hlive : s.search.exhausted = false) {code : ErrCode}
    (hcode : isConflict code) (p : Nat) : Inv (failAt code p s) :=
  inv_result (inv_setSearch (b := false) h (searchAgrees_failAt h.search hlive hcode p) nofun) _

theorem inv_searchSuccess {s : State} (h : Inv s) (hcap : s.cfg.searchCap ≤ 32)
    (hok : s.search.errCode = .ok) {last0 : Option Nat} (hlast : ∀ l ∈ last0, l < s.cfg.searchCap) :
    Inv (searchSuccess last0 s) :=
  inv_result (inv_setSearch h (searchAgrees_success hcap h.search hok hlast) fun _ => hok) _

theorem inv_finishWalk {s : State} (h : Inv s) (hcap : s.cfg.searchCap ≤ 32)
    (hlive : sessionLive s.search = true) {last0 : Option Nat}
    (hlast : ∀ l ∈ last0, l < s.cfg.searchCap) : Inv (finishWalk last0 s) := by
  obtain ⟨hok, hexhausted⟩ := (sessionLive_iff _).mp hlive
  rcases finishWalk_cases last0 s with ⟨-, heq⟩ | ⟨-, heq⟩ <;> rw [heq]
  · exact inv_failPlain h hexhausted (by decide)
  · exact inv_searchSuccess h hcap hok hlast

theorem commandedWalk_endAgrees (s : State) :
    WalkEndAgrees s.cfg.searchCap (commandedWalk s).1 := by
  have hcfg : (s.busWriteByte s.cfg.searchRomCmd).cfg = s.cfg := by rw [busWriteByte_eq]
  have hend := walk_endAgrees 64 0 0 none (s.busWriteByte s.cfg.searchRomCmd) nofun
  rw [hcfg] at hend
  exact hend

theorem inv_searchWalk {s : State} (h : Inv s) (hcap : s.cfg.searchCap ≤ 32)
    (hlive : sessionLive s.search = true) : Inv (searchWalk s) := by
  have hframe := commandedWalk_frame s
  have hend := commandedWalk_endAgrees s
  have hinv : Inv (commandedWalk s).2 := by
    rw [hframe]
    exact inv_setSlots h _ _ _
  have hcfg : (commandedWalk s).2.cfg = s.cfg := by rw [hframe]
  have hsearch : (commandedWalk s).2.search = s.search := by rw [hframe]
  rcases searchWalk_cases s with ⟨code, p, hw, heq⟩ | ⟨last0, hw, heq⟩ <;>
    rw [heq] <;> rw [hw] at hend
  · obtain ⟨-, hexhausted⟩ := (sessionLive_iff _).mp hlive
    exact inv_failAt hinv (by rw [hsearch, hexhausted]) hend p
  · exact inv_finishWalk hinv (by rwa [hcfg]) (by rwa [hsearch]) (by rwa [hcfg])

theorem inv_searchLive {s : State} (h : Inv s) (hcap : s.cfg.searchCap ≤ 32)
    (hlive : sessionLive s.search = true) : Inv (searchLive s) := by
  have hreset : Inv (State.busReset { s with addrOut := 0#64 }).2 := inv_setSlots h _ _ _
  rw [searchLive_eq]
  split
  · exact inv_searchWalk hreset hcap hlive
  · obtain ⟨-, hexhausted⟩ := (sessionLive_iff _).mp hlive
    exact inv_failPlain hreset hexhausted (by decide)

theorem inv_searchNext {s : State} (h : Inv s) (hcap : s.cfg.searchCap ≤ 32) : Inv (searchNext s) := by
  unfold searchNext
  split
  · rename_i hlive
    exact inv_searchLive h hcap hlive
  · exact inv_result (inv_setSearch (b := false) h h.search nofun) _

end Sys2Proof.Proofs
end

section
/-! PROOFS. The cascade keeps the invariant: its outputs, its counts and the inputs it holds (R302 to
R306, R314, R325 to R327). -/

namespace Sys2Proof.Proofs

open Sys2Proof.Machine Sys2Proof.Safety

theorem inv_storeReading {s : State} (h : Inv s) (role : Role) {v : Half} (hv : v ≠ invalidTemp) :
    Inv (storeReading role v s).state := by
  obtain ⟨hfeed, hindoor, houtdoor, hcurrent, hinlet, houtlet, hflue⟩ := h.inputs
  cases role with
  | feed =>
    simp only [storeReading]
    split
    · exact h
    · exact inv_setRad h hv hindoor houtdoor
  | indoor => exact inv_setRad h hfeed hv houtdoor
  | outdoor => exact inv_setRad h hfeed hindoor hv
  | inlet => exact inv_setBoil h hcurrent hv houtlet hflue
  | outlet => exact inv_setBoil h hcurrent hinlet hv hflue
  | flue => exact inv_setBoil h hcurrent hinlet houtlet hv

theorem inv_processSensor {s : State} (h : Inv s) (u : UnitId) (v : Half) :
    Inv (processSensor u v s).state := by
  unfold processSensor
  split
  · exact h
  · split
    · exact h
    · rename_i hv
      exact inv_storeReading h _ hv

/-- The frame's part of a cycle with at most three ticks keeps the invariant (R304 to R306). -/
theorem inv_frameStep {s : State} (h : Inv s) (hwf : s.cfg.wf = true) (hs : s.slice = none) (u : UnitId)
    {ticks : Nat} (hticks : ticks ≤ 3) (target : Int) (input : Half) :
    Inv (frameStep u ticks target input s) := by
  have hp := wf_reg hwf u
  obtain ⟨hframe, hcount, hlast, -, htrip⟩ := frameStep_frame u ticks target input s
  have hagrees := failCountAgrees_of_cycle (wf_frame hwf u) hticks hcount hlast htrip
  rw [hframe]
  cases hcase : trips (s.cfg.frame u)
      (failUpdate (s.cfg.frame u) (s.frame u).failCount.toNat ticks) with
  | true =>
    obtain ⟨hreg, hout⟩ := frameStep_tripped u ticks target input s hcase
    obtain ⟨y, hy, hend⟩ := exists_casOut_eq_tripOut (s.cfg.frame u) hp
    have hbounded := outputBounded_of_casOut hp hy (hout.trans (congrArg toWord hend))
    rw [hreg]
    exact inv_setReg_setFrame h hs (inv_regulator h u) hbounded hagrees
  | false =>
    obtain ⟨hreg, hout⟩ := frameStep_untripped u ticks target input s hcase
    obtain ⟨hr, hy⟩ := regStep_bounded hp
      (r := { s.reg u with target := toWord target }) (inv_regulator h u) input
    have hbounded := outputBounded_of_casOut hp hy hout
    rw [hreg]
    exact inv_setReg_setFrame h hs hr hbounded hagrees

theorem boilTicks_le (p : BoilParams) (b : Boiler) : boilTicks p b ≤ 3 := by
  unfold boilTicks boilMissTicks boilMissing
  split <;> split_ifs <;> omega

theorem boilInlet_eq (p : BoilParams) (b : Boiler) :
    boilInlet p b = b.outlet ∨ boilInlet p b = b.inlet := by
  unfold boilInlet
  split
  · exact .inl rfl
  · exact .inr rfl

theorem frameStep_cfg (u : UnitId) (ticks : Nat) (target : Int) (input : Half) (s : State) :
    (frameStep u ticks target input s).cfg = s.cfg := by
  rw [(frameStep_frame u ticks target input s).1, State.setFrame_cfg, State.setReg_cfg]

theorem inv_radEndCycle {s : State} (h : Inv s) (hwf : s.cfg.wf = true) : Inv (radEndCycle s) := by
  obtain ⟨hindoor, houtdoor, -⟩ := radParams_temps (wf_rad hwf)
  obtain ⟨hfeed, -⟩ := h.inputs
  exact inv_setRad h hfeed (ofInt_ne_invalidTemp hindoor) (ofInt_ne_invalidTemp houtdoor)

theorem inv_radStep {s : State} (h : Inv s) (hwf : s.cfg.wf = true) (hs : s.slice = none) :
    Inv (radStep s) := by
  have hticks : (if s.rad.freshFeed then 0 else 1) ≤ 3 := by split <;> omega
  refine inv_radEndCycle (inv_frameStep h hwf hs .radiator hticks _ _) ?_
  rw [frameStep_cfg]
  exact hwf

theorem inv_boilStep {s : State} (h : Inv s) (hwf : s.cfg.wf = true) (hs : s.slice = none) :
    Inv (boilStep s) := by
  obtain ⟨hinlet, -⟩ := boilParams_temps (wf_boil hwf)
  obtain ⟨-, -, -, -, hin, hout, hflue⟩ := h.inputs
  have hcurrent : boilInlet s.cfg.boil s.boil ≠ invalidTemp := by
    rcases boilInlet_eq s.cfg.boil s.boil with heq | heq <;> rw [heq] <;> assumption
  have hcycle : Inv (boilCycleFrame s) := inv_frameStep h hwf hs .boiler (boilTicks_le _ _) _ _
  have hslice : (boilCycleFrame s).slice = none := by rw [boilCycleFrame_eq]; exact hs
  rw [boilStep_eq]
  exact inv_writeAct
    (inv_setBoil (b := boilCycleInputs s) hcycle hcurrent (ofInt_ne_invalidTemp hinlet) hout hflue) hslice _

end Sys2Proof.Proofs
end

section
/-! PROOFS. A SLICE keeps the invariant: the bits of the two valves, and the schedule from its first
reading to its second stop (R365 to R367). -/

namespace Sys2Proof.Proofs

open Sys2Proof.Machine Sys2Proof.Safety

/-! ### The direction bits of the two valves -/

theorem upBit_lt (c : Config) (u : UnitId) : upBit c u < 8 := by
  cases u <;> exact Fin.isLt _

theorem downBit_lt (c : Config) (u : UnitId) : downBit c u < 8 := by
  cases u <;> exact Fin.isLt _

theorem upBit_ne_downBit {c : Config} (hc : c.act.wf = true) (u w : UnitId) :
    upBit c u ≠ downBit c w := by
  simp only [ActParams.wf, decide_eq_true_eq, List.nodup_cons, List.mem_cons, not_or] at hc
  cases u <;> cases w <;> simp [upBit, downBit, Fin.val_inj, hc, Ne.symm]

theorem valveBits_ne {c : Config} (hc : c.act.wf = true) {u w : UnitId} (hne : u ≠ w) :
    upBit c u ≠ upBit c w ∧ downBit c u ≠ downBit c w := by
  have hvalves : upBit c .radiator ≠ upBit c .boiler ∧ downBit c .radiator ≠ downBit c .boiler := by
    simp only [ActParams.wf, decide_eq_true_eq, List.nodup_cons, List.mem_cons, not_or] at hc
    simp [upBit, downBit, Fin.val_inj, hc]
  obtain ⟨hup, hdown⟩ := hvalves
  cases u with
  | radiator => cases w with
    | radiator => exact absurd rfl hne
    | boiler => exact ⟨hup, hdown⟩
  | boiler => cases w with
    | radiator => exact ⟨hup.symm, hdown.symm⟩
    | boiler => exact absurd rfl hne

theorem assertDirection_own {c : Config} (hc : c.act.wf = true) (u : UnitId) (d : Direction)
    (a : Byte) :
    (assertDirection c u d a).getLsbD (upBit c u) = (d == .up)
    ∧ (assertDirection c u d a).getLsbD (downBit c u) = (d == .down) := by
  unfold assertDirection
  rw [getLsbD_setBit _ _ _ _ (upBit_lt c u), getLsbD_setBit _ _ _ _ (downBit_lt c u), if_pos rfl,
    if_neg (upBit_ne_downBit hc u u), getLsbD_setBit _ _ _ _ (upBit_lt c u), if_pos rfl]
  exact ⟨rfl, rfl⟩

theorem assertDirection_other {c : Config} (hc : c.act.wf = true) {u w : UnitId} (hne : w ≠ u)
    (d : Direction) (a : Byte) :
    (assertDirection c u d a).getLsbD (upBit c w) = a.getLsbD (upBit c w)
    ∧ (assertDirection c u d a).getLsbD (downBit c w) = a.getLsbD (downBit c w) := by
  obtain ⟨hup, hdown⟩ := valveBits_ne hc hne
  unfold assertDirection
  constructor
  · rw [getLsbD_setBit _ _ _ _ (upBit_lt c w), if_neg (upBit_ne_downBit hc w u),
      getLsbD_setBit _ _ _ _ (upBit_lt c w), if_neg hup]
  · rw [getLsbD_setBit _ _ _ _ (downBit_lt c w), if_neg hdown,
      getLsbD_setBit _ _ _ _ (downBit_lt c w), if_neg (upBit_ne_downBit hc u w).symm]

/-- After the first write of SLICE each valve shows the sign of its output (R365). -/
theorem assertedAct_drives {s : State} (hc : s.cfg.act.wf = true) (u : UnitId) :
    (assertedAct s).getLsbD (upBit s.cfg u) = (dir (s.casOutValue u) == .up)
    ∧ (assertedAct s).getLsbD (downBit s.cfg u) = (dir (s.casOutValue u) == .down) := by
  cases u with
  | boiler => exact assertDirection_own hc .boiler _ _
  | radiator =>
    obtain ⟨hup, hdown⟩ := assertDirection_other hc (u := .boiler) (w := .radiator) (by decide)
      (dir (s.casOutValue .boiler))
      (assertDirection s.cfg .radiator (dir (s.casOutValue .radiator)) s.act)
    obtain ⟨hup', hdown'⟩ := assertDirection_own hc .radiator (dir (s.casOutValue .radiator)) s.act
    exact ⟨hup.trans hup', hdown.trans hdown'⟩

/-- Stopping a valve is asserting that it stands still (R365). -/
theorem stopActuator_act (u : UnitId) (s : State) :
    (stopActuator u s).act = assertDirection s.cfg u .stop s.act := rfl

/-! ### The state of a SLICE between its stops -/

/-- A SLICE `p` under way, at any point between its first reading and its last stop: as in `SliceAgrees`,
but the wait may be over, and with what the invariant says of everything but the SLICE. -/
structure InSlice (s : State) (p : SliceProgress) : Prop where
  running : s.slice = some p
  unfaulted : s.status.fault = false
  first : p.first = firstStop s
  tFirst : p.tFirst = holdTime s p.first
  tSecond : p.tSecond = holdTime s (otherUnit p.first)
  drives : ∀ u, SliceDrives s p u
  rest : Inv { s with slice := none }

theorem inSlice_of_inv {s : State} (h : Inv s) {p : SliceProgress} (hp : s.slice = some p) :
    InSlice s p := by
  have hslice := h.slice
  simp only [SliceAgrees, hp] at hslice
  obtain ⟨hfault, hfirst, htFirst, htSecond, -, hrad, hboil⟩ := hslice
  exact
    { running := hp, unfaulted := hfault, first := hfirst, tFirst := htFirst, tSecond := htSecond
      drives := fun u => match u with
        | .radiator => hrad
        | .boiler => hboil
      rest := { h with slice := trivial } }

/-- A SLICE that waits for its next reading meets the invariant (R366). -/
theorem inv_of_inSlice {s : State} {p : SliceProgress} (h : InSlice s p)
    (hwait : (p.last - p.t0).toNat < (if p.firstStopped then p.tSecond else p.tFirst).toNat) :
    Inv s := by
  have hslice : SliceAgrees s := by
    simp only [SliceAgrees, h.running]
    exact ⟨h.unfaulted, h.first, h.tFirst, h.tSecond, hwait, h.drives .radiator, h.drives .boiler⟩
  exact { h.rest with slice := hslice }

theorem casOutValue_congr {s t : State} (h0 : t.frame0 = s.frame0) (h1 : t.frame1 = s.frame1)
    (u : UnitId) : t.casOutValue u = s.casOutValue u := by
  cases u with
  | radiator => exact congrArg (fun f : Frame => f.casOut.toInt) h0
  | boiler => exact congrArg (fun f : Frame => f.casOut.toInt) h1

theorem holdTime_congr {s t : State} (h0 : t.frame0 = s.frame0) (h1 : t.frame1 = s.frame1)
    (u : UnitId) : holdTime t u = holdTime s u := by
  rw [holdTime, holdTime, casOutValue_congr h0 h1]

theorem firstStop_congr {s t : State} (h0 : t.frame0 = s.frame0) (h1 : t.frame1 = s.frame1) :
    firstStop t = firstStop s := by
  rw [firstStop, firstStop, holdTime_congr h0 h1, holdTime_congr h0 h1]

/-- The progress a SLICE starts with (R365). -/
def startOfSlice (s : State) : SliceProgress :=
  { t0 := s.clock, last := s.clock, first := firstStop s, tFirst := holdTime s (firstStop s),
    tSecond := holdTime s (otherUnit (firstStop s)), firstStopped := false }

theorem sliceBegin_eq (s : State) :
    sliceBegin s = { (s.writeAct (assertedAct s)).readClock with slice := some (startOfSlice s) } := rfl

@[simp] theorem sliceBegin_cfg (s : State) : (sliceBegin s).cfg = s.cfg := by simp [sliceBegin_eq]

@[simp] theorem sliceBegin_status (s : State) : (sliceBegin s).status = s.status := by
  simp [sliceBegin_eq]

@[simp] theorem sliceBegin_frame0 (s : State) : (sliceBegin s).frame0 = s.frame0 := by
  simp [sliceBegin_eq]

@[simp] theorem sliceBegin_frame1 (s : State) : (sliceBegin s).frame1 = s.frame1 := by
  simp [sliceBegin_eq]

@[simp] theorem sliceBegin_act (s : State) : (sliceBegin s).act = assertedAct s := by
  simp [sliceBegin_eq]

@[simp] theorem sliceBegin_slice (s : State) : (sliceBegin s).slice = some (startOfSlice s) := by
  simp [sliceBegin_eq]

theorem sliceDrives_sliceBegin {s : State} (hc : s.cfg.act.wf = true) (u : UnitId) :
    SliceDrives (sliceBegin s) (startOfSlice s) u := by
  have hmoving : stoppedInSlice (startOfSlice s) u = false := rfl
  have hout : (sliceBegin s).casOutValue u = s.casOutValue u :=
    casOutValue_congr (sliceBegin_frame0 s) (sliceBegin_frame1 s) u
  simpa [SliceDrives, hmoving, hout] using assertedAct_drives hc u

theorem inv_readClock_withoutSlice {s : State} (h : Inv s) (o : Option SliceProgress) :
    Inv { ({ s.readClock with slice := o } : State) with slice := none } :=
  { h with slice := trivial }

theorem inSlice_sliceBegin {s : State} (h : Inv s) (hc : s.cfg.act.wf = true) (hs : s.slice = none)
    (hfault : s.status.fault = false) : InSlice (sliceBegin s) (startOfSlice s) := by
  have hrest : Inv { sliceBegin s with slice := none } := by
    rw [sliceBegin_eq]
    exact inv_readClock_withoutSlice (inv_writeAct h hs (assertedAct s)) _
  have hfirst : firstStop (sliceBegin s) = firstStop s :=
    firstStop_congr (sliceBegin_frame0 s) (sliceBegin_frame1 s)
  have hhold (u : UnitId) : holdTime (sliceBegin s) u = holdTime s u :=
    holdTime_congr (sliceBegin_frame0 s) (sliceBegin_frame1 s) u
  exact
    { running := sliceBegin_slice s
      unfaulted := by rw [sliceBegin_status, hfault]
      first := hfirst.symm
      tFirst := (hhold _).symm
      tSecond := (hhold _).symm
      drives := sliceDrives_sliceBegin hc
      rest := hrest }

theorem inSlice_read {s : State} {p : SliceProgress} (h : InSlice s p) :
    InSlice { s.readClock with slice := some { p with last := s.clock } } { p with last := s.clock } :=
  { h with running := rfl, rest := { h.rest with } }

theorem inSlice_stopFirst {s : State} {p : SliceProgress} (h : InSlice s p) (hc : s.cfg.act.wf = true) :
    InSlice { stopActuator p.first s with slice := some { p with firstStopped := true } }
      { p with firstStopped := true } := by
  have hdrives : ∀ u, SliceDrives (stopActuator p.first s) { p with firstStopped := true } u := by
    intro u
    by_cases hu : u = p.first
    · have hstopped : stoppedInSlice { p with firstStopped := true } u = true := by simp [hu]
      simp only [SliceDrives, stopActuator_act, hstopped, Bool.not_true, Bool.false_and]
      exact hu ▸ assertDirection_own hc p.first .stop s.act
    · have hmoving (b : Bool) : stoppedInSlice { p with firstStopped := b } u = false := by simp [hu]
      obtain ⟨hup, hdown⟩ := h.drives u
      obtain ⟨hup', hdown'⟩ := assertDirection_other hc hu .stop s.act
      rw [hmoving p.firstStopped] at hup hdown
      simp only [SliceDrives, stopActuator_act, hmoving]
      exact ⟨hup'.trans hup, hdown'.trans hdown⟩
  exact { h with running := rfl, drives := hdrives, rest := inv_writeAct h.rest rfl _ }

/-! ### The stops -/

theorem waitOver_eq_false_iff (t0 c t : Word) :
    waitOver t0 c t = false ↔ (c - t0).toNat < t.toNat := by
  simp [waitOver]

theorem settleFirst_of_running {s : State} {p : SliceProgress} (hp : s.slice = some p) :
    settleFirst s =
      if !p.firstStopped && waitOver p.t0 p.last p.tFirst then
        { stopActuator p.first s with slice := some { p with firstStopped := true } }
      else s := by
  simp [settleFirst, hp]

theorem settleSecond_of_running {s : State} {p : SliceProgress} (hp : s.slice = some p) :
    settleSecond s =
      if p.firstStopped && waitOver p.t0 p.last p.tSecond then
        State.result { stopActuator (otherUnit p.first) s with slice := none } p.tSecond
      else s := by
  simp [settleSecond, hp]

/-- After the first stop, if it is due, the SLICE is under way and waits, or is past its first wait (R365,
R366). -/
theorem inSlice_settleFirst {s : State} {p : SliceProgress} (h : InSlice s p)
    (hc : s.cfg.act.wf = true) :
    ∃ q, InSlice (settleFirst s) q
      ∧ (q.firstStopped = false → (q.last - q.t0).toNat < q.tFirst.toNat) := by
  rw [settleFirst_of_running h.running]
  split
  · exact ⟨_, inSlice_stopFirst h hc, nofun⟩
  · rename_i hdue
    exact ⟨p, h, fun hfirst => (waitOver_eq_false_iff _ _ _).mp (by simpa [hfirst] using hdue)⟩

/-- The second stop ends the SLICE, or it waits for its next reading (R365, R366). -/
theorem inv_settleSecond {s : State} {p : SliceProgress} (h : InSlice s p)
    (hwait : p.firstStopped = false → (p.last - p.t0).toNat < p.tFirst.toNat) :
    Inv (settleSecond s) := by
  rw [settleSecond_of_running h.running]
  split
  · exact inv_result (inv_writeAct h.rest rfl _) _
  · rename_i hdue
    refine inv_of_inSlice h ?_
    cases hfirst : p.firstStopped with
    | false => exact hwait hfirst
    | true => exact (waitOver_eq_false_iff _ _ _).mp (by simpa [hfirst] using hdue)

theorem inv_sliceSettle {s : State} {p : SliceProgress} (h : InSlice s p) (hc : s.cfg.act.wf = true) :
    Inv (sliceSettle s) := by
  obtain ⟨q, hq, hwait⟩ := inSlice_settleFirst h hc
  exact inv_settleSecond hq hwait

theorem inv_slice {s : State} (h : Inv s) (hwf : s.cfg.wf = true) (hs : s.slice = none)
    (hfault : s.status.fault = false) : Inv (sliceSettle (sliceBegin s)) := by
  have hbegin := inSlice_sliceBegin h (wf_act hwf) hs hfault
  exact inv_sliceSettle hbegin (by rw [sliceBegin_cfg]; exact wf_act hwf)

theorem inv_sliceReading {s : State} (h : Inv s) (hwf : s.cfg.wf = true) : Inv (sliceReading s) := by
  cases hs : s.slice with
  | none => rw [sliceReading, hs]; exact h
  | some p =>
    rw [sliceReading_eq s p hs]
    exact inv_sliceSettle (inSlice_read (inSlice_of_inv h hs)) (wf_act hwf)

theorem inv_continueSlice {s : State} (h : Inv s) (hwf : s.cfg.wf = true) : Inv (continueSlice s) := by
  rcases continueSlice_cases s with ⟨rest, -, heq⟩ | ⟨n, rest, -, heq⟩ | ⟨-, heq⟩ <;> rw [heq]
  · exact inv_resetBlock hwf
  · exact inv_sliceReading (inv_advanceClock (inv_setInputs h rest) n) hwf
  · exact inv_sliceReading (inv_advanceClock h _) hwf

theorem continueSlice_cfg (s : State) : (continueSlice s).cfg = s.cfg := by
  rcases continueSlice_cases s with ⟨rest, -, heq⟩ | ⟨n, rest, -, heq⟩ | ⟨-, heq⟩ <;> rw [heq]
  · rfl
  · rw [(sliceFrame_sliceReading _).eq]; rfl
  · rw [(sliceFrame_sliceReading _).eq]; rfl

end Sys2Proof.Proofs
end

section
/-! PROOFS. Every command and every step keeps the invariant and the configuration. -/

namespace Sys2Proof.Proofs

open Sys2Proof.Machine Sys2Proof.Safety

/-! ### Commands -/

/-- No command changes the configuration (R441). -/
theorem after_cfg (i : Instr) (s : State) : (after i s).cfg = s.cfg := by
  cases i with
  | srchNext => rw [after_srchNext, (searchFrame_searchNext s).eq]
  | casSensor u v => rw [after_casSensor, processSensor_frame]; rfl
  | casStep u =>
    cases u with
    | radiator => rw [after_casStep, cascadeStep_radiator, radStep_frame]; rfl
    | boiler => rw [after_casStep, cascadeStep_boiler, boilStep_frame]; rfl
  | slice => rw [after_slice, (sliceFrame_slice s).eq]
  | regSettgt u v | regStep u v | regReset u => simp
  | _ => rfl

/-- A command that runs on an unfaulted block with no SLICE in progress keeps the invariant. -/
theorem inv_after {s : State} (h : Inv s) (hwf : s.cfg.wf = true) (hs : s.slice = none)
    (hfault : s.status.fault = false) (i : Instr) : Inv (after i s) := by
  cases i with
  | srchStart => exact inv_setSearch (b := false) h (searchAgrees_start _) nofun
  | srchNext => exact inv_searchNext h (wf_searchCap_le hwf)
  | regSettgt u v => exact inv_setReg h (inv_regulator h u)
  | regStep u v =>
    obtain ⟨hbounded, -⟩ := regStep_bounded (wf_reg hwf u) (inv_regulator h u) v
    exact inv_result (inv_setReg h hbounded) _
  | regReset u => exact inv_setReg h (regulatorBounded_of_zero (wf_reg hwf u) rfl rfl rfl)
  | casSensor u v => exact inv_result (inv_processSensor h u v) _
  | casStep u =>
    cases u with
    | radiator => exact inv_result (inv_radStep h hwf hs) _
    | boiler => exact inv_result (inv_boilStep h hwf hs) _
  | actSet b => exact inv_writeAct h hs _
  | actClr b => exact inv_writeAct h hs _
  | slice => exact inv_slice h hwf hs hfault
  | nop | crcClr | crcByte b | crcAddr | decSensor raw | decTc raw | casGetout u | casGetabs u =>
    exact { h with }

/-! ### Host accesses and steps -/

/-- Everything a write of a writable word can do: set a fault, write ADDR_IN (or leave it, when the block
is faulted) or run a command on an unfaulted block (R182, R183, R406). -/
theorem writeReg_cases {r : WritableReg} {v : Word} {s t : State} (h : writeReg r v s = .next t) :
    (∃ code, code ≠ FaultCode.none ∧ t = raiseFault code s)
    ∨ (∃ a, t = { s with addrIn := a })
    ∨ (∃ i, s.status.fault = false ∧ t = after i s) := by
  cases r with
  | cmd =>
    simp only [writeReg, issue] at h
    split at h
    · exact .inr (.inl ⟨s.addrIn, (Host.Outcome.next.inj h).symm⟩)
    · rename_i hfault
      split at h
      · exact .inl ⟨.illegalCommand, by decide, (Host.Outcome.next.inj h).symm⟩
      · exact .inr (.inr ⟨_, Bool.eq_false_of_not_eq_true hfault, eq_after_of_exec h⟩)
  | addrInLo | addrInHi =>
    obtain rfl := Host.Outcome.next.inj h
    split
    · exact .inr (.inl ⟨s.addrIn, rfl⟩)
    · exact .inr (.inl ⟨_, rfl⟩)

/-- Everything one host access can do: return a word, set a fault, write ADDR_IN or run a command on an
unfaulted block (R181, R182, R405). -/
theorem performAccess_cases {a : HostAccess} {s t : State} (h : performAccess a s = .next t) :
    (∃ v, t = { s with readData := v })
    ∨ (∃ v, t = { raiseFault .accessFault s with readData := v })
    ∨ (∃ code, code ≠ FaultCode.none ∧ t = raiseFault code s)
    ∨ (∃ v, t = { s with addrIn := v })
    ∨ (∃ i, s.status.fault = false ∧ t = after i s) := by
  cases a with
  | read width offset =>
    obtain rfl := Host.Outcome.next.inj h
    cases hword : readWord width offset s with
    | none => exact .inr (.inl ⟨_, hostRead_of_no_word width offset s hword⟩)
    | some v => exact .inl ⟨v, hostRead_of_readWord width offset v s hword⟩
  | write width offset v =>
    rw [performAccess_write_eq] at h
    cases htarget : writeTarget width offset with
    | none =>
      rw [htarget] at h
      exact .inr (.inr (.inl ⟨.accessFault, by decide, (Host.Outcome.next.inj h).symm⟩))
    | some r =>
      rw [htarget] at h
      exact .inr (.inr (writeReg_cases h))

/-- Everything one step can do: it stands still, resets, advances the counter, makes one host access or
goes on with the SLICE in progress (R110, R412, R418, R440). -/
theorem step_cases {s t : State} (h : step s = .next t) :
    s.cfg.wf = true
    ∧ (t = continueSlice s
      ∨ (s.slice = none ∧
        (t = s
        ∨ (∃ rest, t = resetBlock { s with inputs := rest })
        ∨ (∃ n rest, t = State.advanceClock { s with inputs := rest } n)
        ∨ (∃ a rest, performAccess a { s with inputs := rest } = .next t)))) := by
  cases hwf : s.cfg.wf with
  | false => rw [step_eq_of_not_wf s hwf] at h; exact nomatch h
  | true =>
    refine ⟨rfl, ?_⟩
    rw [step_eq_of_wf s hwf] at h
    cases hs : s.slice with
    | some p => rw [hs] at h; exact .inl (Host.Outcome.next.inj h).symm
    | none =>
      simp only [hs, takeInput] at h
      refine .inr ⟨rfl, ?_⟩
      split at h
      · exact .inl (Host.Outcome.next.inj h).symm
      · exact .inr (.inr (.inr ⟨_, _, h⟩))
      · exact .inr (.inl ⟨_, (Host.Outcome.next.inj h).symm⟩)
      · exact .inr (.inr (.inl ⟨_, _, (Host.Outcome.next.inj h).symm⟩))

theorem inv_performAccess {a : HostAccess} {s t : State} (h : Inv s) (hwf : s.cfg.wf = true)
    (hs : s.slice = none) (ht : performAccess a s = .next t) : Inv t ∧ t.cfg = s.cfg := by
  rcases performAccess_cases ht with ⟨v, rfl⟩ | ⟨v, rfl⟩ | ⟨code, hcode, rfl⟩ | ⟨v, rfl⟩ | ⟨i, hf, rfl⟩
  · exact ⟨inv_setReadData h v, rfl⟩
  · exact ⟨inv_setReadData (inv_raiseFault h hs (by decide)) v, by rw [raiseFault_eq]⟩
  · exact ⟨inv_raiseFault h hs hcode, by rw [raiseFault_eq]⟩
  · exact ⟨inv_setAddrIn h v, rfl⟩
  · exact ⟨inv_after h hwf hs hf i, after_cfg i s⟩

/-- Settles O59, by the cases of a step: each is a composition of operations that keep the invariant. -/
theorem stepKeepsTheInvariant : Obligations.StepKeepsTheInvariant := by
  intro s t h hstep
  obtain ⟨hwf, rfl | ⟨hs, rfl | ⟨rest, rfl⟩ | ⟨n, rest, rfl⟩ | ⟨a, rest, haccess⟩⟩⟩ := step_cases hstep
  · exact ⟨inv_continueSlice h hwf, continueSlice_cfg s⟩
  · exact ⟨h, rfl⟩
  · exact ⟨inv_resetBlock hwf, rfl⟩
  · exact ⟨inv_advanceClock (inv_setInputs h rest) n, rfl⟩
  · exact inv_performAccess (s := { s with inputs := rest }) (inv_setInputs h rest) hwf hs haccess

end Sys2Proof.Proofs
end

section
/-! PROOFS. What each word of the host window reads as, field by field (R103). -/

namespace Sys2Proof.Proofs

open Sys2Proof.Machine Sys2Proof.Safety

/-! ### Flags and fields of a host word -/

theorem getLsbD_flagAt (b : Bool) {i j : Nat} (hj : j < 32) :
    (flagAt b i).getLsbD j = (b && decide (j = i)) := by
  have hbit : (flagAt b i).getLsbD j = (!decide (j < i) && (b && decide (j - i = 0))) := by
    cases b <;> simp [flagAt, bitWord, hj]
  grind

@[simp] theorem getElem_flagAt (b : Bool) {i j : Nat} (hj : j < 32) :
    (flagAt b i)[j] = (b && decide (j = i)) := by
  rw [← BitVec.getLsbD_eq_getElem, getLsbD_flagAt b hj]

theorem extractLsb'_flagAt_of_outside {b : Bool} {i start len : Nat}
    (h : i < start ∨ start + len ≤ i) (hlen : start + len ≤ 32) :
    (flagAt b i).extractLsb' start len = 0#len := by
  refine BitVec.eq_of_getLsbD_eq fun j hj => ?_
  have hne : start + j ≠ i := by omega
  simp [getLsbD_flagAt b (show start + j < 32 by omega), hne]

/-- A register placed at bit `k` of a host word is read back from there. -/
theorem extractLsb'_field_self {w k : Nat} {v : BitVec w} (h : k + w ≤ 32) :
    (v.setWidth 32 <<< k).extractLsb' k w = v := by
  refine BitVec.eq_of_getLsbD_eq fun j hj => ?_
  have hbit : k + j < 32 := by omega
  simp [hj, hbit]

/-- A register placed at bit `k` of a host word leaves the other bits 0. -/
theorem extractLsb'_field_of_outside {w k start len : Nat} {v : BitVec w}
    (h : start + len ≤ k ∨ k + w ≤ start) :
    (v.setWidth 32 <<< k).extractLsb' start len = 0#len := by
  refine BitVec.eq_of_getLsbD_eq fun j hj => ?_
  rcases h with h | h
  · have hlow : start + j < k := by omega
    simp [hlow]
  · simp [BitVec.getLsbD_of_ge v (start + j - k) (by omega)]

/-- Above its width a register reads 0: the bits over one that stands at bit 0 of a host word. -/
theorem extractLsb'_of_above {w start len : Nat} {v : BitVec w} (h : w ≤ start) :
    v.extractLsb' start len = 0#len := by
  refine BitVec.eq_of_getLsbD_eq fun j _ => ?_
  simp [BitVec.getLsbD_of_ge v (start + j) (by omega)]

/-! ### The words packed from several registers -/

/-- STATUS (R103). -/
theorem statusWord_fields (st : Status) :
    (statusWord st).getLsbD 0 = st.fault
    ∧ (statusWord st).extractLsb' 4 4 = faultCodeBits st.faultCode
    ∧ (statusWord st).getLsbD 8 = st.found ∧ (statusWord st).getLsbD 9 = st.crcOk
    ∧ (statusWord st).getLsbD 10 = st.valid
    ∧ (statusWord st).extractLsb' 1 3 = 0#3 ∧ (statusWord st).extractLsb' 11 21 = 0#21 := by
  simp (disch := omega) [statusWord, BitVec.extractLsb'_or, extractLsb'_flagAt_of_outside,
    extractLsb'_field_self, extractLsb'_field_of_outside]

/-- SRCH_STATE (R103). -/
theorem searchWord_fields (q : Search) :
    (searchWord q).extractLsb' 0 3 = errCodeBits q.errCode ∧ (searchWord q).getLsbD 3 = q.exhausted
    ∧ (searchWord q).extractLsb' 8 3 = q.errBytePos ∧ (searchWord q).extractLsb' 16 8 = q.errBitMask
    ∧ (searchWord q).extractLsb' 4 4 = 0#4 ∧ (searchWord q).extractLsb' 11 5 = 0#5
    ∧ (searchWord q).extractLsb' 24 8 = 0#8 := by
  simp (disch := omega) [searchWord, BitVec.extractLsb'_or, extractLsb'_flagAt_of_outside,
    extractLsb'_field_self, extractLsb'_field_of_outside, BitVec.extractLsb'_setWidth_of_le,
    extractLsb'_of_above]

/-- Two bytes packed as ACTP and CAS_FAIL pack them (R103). -/
theorem bytePair_fields (lo hi : Byte) :
    (lo.zeroExtend 32 ||| (hi.zeroExtend 32 <<< 8) : Word).extractLsb' 0 8 = lo
    ∧ (lo.zeroExtend 32 ||| (hi.zeroExtend 32 <<< 8) : Word).extractLsb' 8 8 = hi
    ∧ (lo.zeroExtend 32 ||| (hi.zeroExtend 32 <<< 8) : Word).extractLsb' 16 16 = 0#16 := by
  simp (disch := omega) [BitVec.extractLsb'_or, extractLsb'_field_self, extractLsb'_field_of_outside,
    BitVec.extractLsb'_setWidth_of_le, extractLsb'_of_above]

/-- REG_PREV: a half-word with a flag above it (R103). -/
theorem halfWithFlag_fields (v : Half) (b : Bool) :
    (v.zeroExtend 32 ||| flagAt b 16 : Word).extractLsb' 0 16 = v
    ∧ (v.zeroExtend 32 ||| flagAt b 16 : Word).getLsbD 16 = b
    ∧ (v.zeroExtend 32 ||| flagAt b 16 : Word).extractLsb' 17 15 = 0#15 := by
  simp (disch := omega) [BitVec.extractLsb'_or, extractLsb'_flagAt_of_outside,
    BitVec.extractLsb'_setWidth_of_le, extractLsb'_of_above]

/-- CAS_FLAGS of unit 0 (R103). -/
theorem radiatorFlags_fields (f : Frame) (r : Radiator) :
    (radiatorFlags f r).getLsbD 0 = f.tripped ∧ (radiatorFlags f r).extractLsb' 7 25 = 0#25
    ∧ (radiatorFlags f r).getLsbD 1 = r.freshFeed ∧ (radiatorFlags f r).extractLsb' 2 5 = 0#5 := by
  simp (disch := omega) [radiatorFlags, BitVec.extractLsb'_or, extractLsb'_flagAt_of_outside]

/-- CAS_FLAGS of unit 1 (R103). -/
theorem boilerFlags_fields (f : Frame) (b : Boiler) :
    (boilerFlags f b).getLsbD 0 = f.tripped ∧ (boilerFlags f b).extractLsb' 7 25 = 0#25
    ∧ (boilerFlags f b).getLsbD 1 = b.freshIn ∧ (boilerFlags f b).getLsbD 2 = b.freshOut
    ∧ (boilerFlags f b).getLsbD 3 = b.flueValid ∧ (boilerFlags f b).getLsbD 4 = b.avgValid
    ∧ (boilerFlags f b).getLsbD 5 = b.pumpOn ∧ (boilerFlags f b).getLsbD 6 = b.guard := by
  simp (disch := omega) [boilerFlags, BitVec.extractLsb'_or, extractLsb'_flagAt_of_outside]

/-- SRCH_VISITED: the first SEARCH_CAP bits of VISITED (R103). -/
theorem getLsbD_visitedWord (s : State) {j : Nat} (hj : j < 32) :
    (visitedWord s).getLsbD j = (decide (j < s.cfg.searchCap) && s.search.visited.getLsbD j) := by
  rw [visitedWord, BitVec.getLsbD_and, BitVec.getLsbD_ofNat, Nat.testBit_two_pow_sub_one, Bool.and_comm]
  simp [hj]

/-- An address is its two words, high then low (R34, R103). -/
theorem addressHalves_append (a : DeviceAddress) : a.extractLsb' 32 32 ++ a.extractLsb' 0 32 = a :=
  (BitVec.extractLsb'_append_extractLsb'_eq_extractLsb' (by rfl)).trans BitVec.extractLsb'_eq_self

/-! ### The word at an offset -/

/-- A 32-bit read at an aligned mapped offset is of the word there (R101, R103). -/
theorem readWord_of_regAt {offset : Nat} {r : HostReg} (s : State) (halign : offset % 4 = 0)
    (hr : regAt offset = some r) : readWord 32 offset s = readReg s r := by
  simp [readWord, accessShapeOk, halign, hr]

/-- Where the window of a unit begins (R103). -/
def windowBase : UnitId → Nat
  | .radiator => 0x040
  | .boiler => 0x080

theorem regAt_windowBase {o : Nat} {r : UnitWord} (u : UnitId) (h : (o, r) ∈ unitMap) :
    regAt (windowBase u + o) = some (.unit u r) ∧ (windowBase u + o) % 4 = 0 := by
  have hall : ∀ e ∈ unitMap,
      regAt (windowBase u + e.1) = some (.unit u e.2) ∧ (windowBase u + e.1) % 4 = 0 := by
    cases u <;> decide
  exact hall _ h

/-- A word of a unit's window reads as the contents of that unit's register (R103). -/
theorem readWord_unit (s : State) (u : UnitId) {o : Nat} {r : UnitWord} (h : (o, r) ∈ unitMap) :
    readWord 32 (windowBase u + o) s = some (unitWordValue s u r) := by
  obtain ⟨hr, halign⟩ := regAt_windowBase u h
  rw [readWord_of_regAt s halign hr, readReg]

/-- Settles O10, word by word: the word at the offset, then its fields. -/
theorem interfaceWordsReadTheirFields : Obligations.InterfaceWordsReadTheirFields := by
  intro s
  exact ⟨rfl, ⟨_, rfl, statusWord_fields s.status⟩, ⟨_, _, rfl, rfl, addressHalves_append s.addrIn⟩,
    ⟨_, _, rfl, rfl, addressHalves_append s.addrOut⟩, ⟨_, rfl, fun j => getLsbD_visitedWord s⟩,
    ⟨_, rfl, searchWord_fields s.search⟩, rfl, ⟨_, rfl, bytePair_fields s.act s.port⟩⟩

/-- Settles O11, word by word: the word at the offset, then its fields; only CAS_FLAGS and the four
CAS_AUX words differ between the units. -/
theorem unitWindowsReadTheirFields : Obligations.UnitWindowsReadTheirFields := by
  intro s u base hbase
  obtain rfl : base = windowBase u := by cases u <;> exact hbase
  have hread {o : Nat} {r : UnitWord} (h : (o, r) ∈ unitMap := by decide) := readWord_unit s u h
  refine ⟨hread (o := 0) (r := .regTarget), ⟨_, hread (r := .regPrev), halfWithFlag_fields _ _⟩,
    hread (r := .regIntegral), hread (r := .regDeriv), hread (r := .regLastout),
    ⟨_, hread (r := .casFail), bytePair_fields _ _⟩, ⟨_, hread (r := .casCurrent), toInt_sext32 _⟩,
    hread (r := .casOut), hread (r := .casTarget), ⟨_, hread (r := .casFlags), ?_⟩,
    ⟨_, _, _, _, hread (r := .casAux0), hread (r := .casAux1), hread (r := .casAux2),
      hread (r := .casAux3), ?_⟩⟩
  · cases u with
    | radiator => exact radiatorFlags_fields s.frame0 s.rad
    | boiler => exact boilerFlags_fields s.frame1 s.boil
  · cases u with
    | radiator => exact ⟨toInt_sext32 _, toInt_sext32 _, rfl, rfl⟩
    | boiler => exact ⟨toInt_sext32 _, toInt_sext32 _, toInt_sext32 _, toInt_sext32 _⟩

end Sys2Proof.Proofs
end

section
/-! PROOFS. The steps that read a mapped word or write ADDR_IN (R104, R106, R181, R182). -/

namespace Sys2Proof.Proofs

open Sys2Proof.Machine Sys2Proof.Safety

/-! ### Reads -/

/-- A block with no SLICE in progress performs the host access that stands first (R110). -/
theorem step_access {s : State} {a : HostAccess} {rest : List Input} (hwf : s.cfg.wf = true)
    (hs : s.slice = none) (hin : s.inputs = .access a :: rest) :
    step s = performAccess a { s with inputs := rest } := by
  simp [step_eq_of_wf s hwf, hs, takeInput, hin]

/-- Every mapped offset but CMD's is the offset of a word other than CMD (R103). -/
theorem regAt_of_mapped {o : Nat} (h : mappedOffset o) (h0 : o ≠ 0x000) :
    ∃ r, regAt o = some r ∧ r ≠ .cmd := by
  have hall : ∀ k < 46, mappedOffset (4 * k) → k ≠ 0 → (regAt (4 * k)).any (· != .cmd) = true := by
    decide
  obtain ⟨k, rfl⟩ : ∃ k, o = 4 * k := ⟨o / 4, by omega⟩
  simpa [Option.any_eq_true] using hall k (by omega) h (by omega)

/-- CMD is the only mapped word that is not readable (R105). -/
theorem readReg_of_ne_cmd (s : State) {r : HostReg} (h : r ≠ .cmd) : ∃ v, readReg s r = some v := by
  cases r with
  | cmd => exact absurd rfl h
  | _ => exact ⟨_, rfl⟩

/-- What a word reads as does not depend on the inputs to come. -/
theorem readWord_setInputs (width offset : Nat) (s : State) (l : List Input) :
    readWord width offset { s with inputs := l } = readWord width offset s := rfl

/-- Settles O9: a mapped offset names a readable word, and a read of one changes the read data only. -/
theorem mappedReadHasNoSideEffect : Obligations.MappedReadHasNoSideEffect := by
  intro s offset rest hwf hs hin hmapped h0
  obtain ⟨r, hr, hcmd⟩ := regAt_of_mapped hmapped h0
  obtain ⟨v, hv⟩ := readReg_of_ne_cmd s hcmd
  have hword : readWord 32 offset s = some v := (readWord_of_regAt s hmapped.1 hr).trans hv
  refine ⟨v, hword, ?_⟩
  rw [step_access hwf hs hin, performAccess,
    hostRead_of_readWord 32 offset v _ ((readWord_setInputs 32 offset s rest).trans hword)]

/-! ### Writes of ADDR_IN -/

/-- A write of ADDR_IN_LO on an unfaulted block replaces the low half (R104, R406). -/
theorem writeReg_addrInLo {s : State} (v : Word) (h : s.status.fault = false) :
    writeReg .addrInLo v s = .next { s with addrIn := s.addrIn.extractLsb' 32 32 ++ v } := by
  simp [writeReg, writeAddrInLo, h]

/-- A write of ADDR_IN_HI on an unfaulted block replaces the high half (R104, R406). -/
theorem writeReg_addrInHi {s : State} (v : Word) (h : s.status.fault = false) :
    writeReg .addrInHi v s = .next { s with addrIn := v ++ s.addrIn.extractLsb' 0 32 } := by
  simp [writeReg, writeAddrInHi, h]

/-- Settles O12: the write reaches its half of ADDR_IN, and the halves of what it leaves are read off. -/
theorem addrInWritesReplaceOneHalf : Obligations.AddrInWritesReplaceOneHalf := by
  intro s v rest hwf hs hfault
  constructor <;> intro hin
  · have hwrite := writeReg_addrInLo (s := { s with inputs := rest }) v hfault
    exact ⟨_, (step_access hwf hs hin).trans hwrite, BitVec.extractLsb'_append_eq_right,
      BitVec.extractLsb'_append_eq_left⟩
  · have hwrite := writeReg_addrInHi (s := { s with inputs := rest }) v hfault
    exact ⟨_, (step_access hwf hs hin).trans hwrite, BitVec.extractLsb'_append_eq_left,
      BitVec.extractLsb'_append_eq_right⟩

end Sys2Proof.Proofs
end

section
/-! PROOFS. The encoding: the fields of a command word, the decoder as the inverse of the encoder, and the
match and mask table (R141 to R149). -/

namespace Sys2Proof.Proofs

open Sys2Proof.Machine Sys2Proof.Safety

/-! ### A word and its four fields -/

/-- Two joins of bits at one place agree when both parts do. -/
theorem bits_append_eq_append_iff {m n : Nat} {a c : BitVec m} {b d : BitVec n} :
    a ++ b = c ++ d ↔ a = c ∧ b = d := by
  constructor
  · intro h
    constructor
    · simpa only [BitVec.extractLsb'_append_eq_left] using congrArg (BitVec.extractLsb' n m) h
    · simpa only [BitVec.extractLsb'_append_eq_right] using congrArg (BitVec.extractLsb' 0 n) h
  · rintro ⟨rfl, rfl⟩
    rfl

/-- The word of four fields, as R141 lays them out. -/
def assemble (imm : BitVec 16) (rsv : BitVec 6) (unit : BitVec 2) (opc : BitVec 8) : Word :=
  imm ++ rsv ++ unit ++ opc

@[simp] theorem opcField_assemble (imm : BitVec 16) (rsv : BitVec 6) (unit : BitVec 2) (opc : BitVec 8) :
    opcField (assemble imm rsv unit opc) = opc :=
  BitVec.extractLsb'_append_eq_right

@[simp] theorem unitField_assemble (imm : BitVec 16) (rsv : BitVec 6) (unit : BitVec 2) (opc : BitVec 8) :
    unitField (assemble imm rsv unit opc) = unit :=
  (BitVec.extractLsb'_append_eq_of_le (by decide)).trans BitVec.extractLsb'_append_eq_right

@[simp] theorem rsvField_assemble (imm : BitVec 16) (rsv : BitVec 6) (unit : BitVec 2) (opc : BitVec 8) :
    rsvField (assemble imm rsv unit opc) = rsv :=
  (BitVec.extractLsb'_append_eq_of_le (by decide)).trans <|
    (BitVec.extractLsb'_append_eq_of_le (by decide)).trans BitVec.extractLsb'_append_eq_right

@[simp] theorem immField_assemble (imm : BitVec 16) (rsv : BitVec 6) (unit : BitVec 2) (opc : BitVec 8) :
    immField (assemble imm rsv unit opc) = imm :=
  (BitVec.extractLsb'_append_eq_of_le (by decide)).trans <|
    (BitVec.extractLsb'_append_eq_of_le (by decide)).trans BitVec.extractLsb'_append_eq_left

theorem assemble_fields (w : Word) :
    assemble (immField w) (rsvField w) (unitField w) (opcField w) = w := by
  rw [assemble, immField, rsvField, BitVec.extractLsb'_append_extractLsb'_eq_extractLsb' (by rfl),
    unitField, BitVec.extractLsb'_append_extractLsb'_eq_extractLsb' (by rfl),
    opcField, BitVec.extractLsb'_append_extractLsb'_eq_extractLsb' (by rfl)]
  exact BitVec.extractLsb'_eq_self

theorem eq_assemble_iff {w : Word} {imm : BitVec 16} {rsv : BitVec 6} {unit : BitVec 2}
    {opc : BitVec 8} : w = assemble imm rsv unit opc ↔
      immField w = imm ∧ rsvField w = rsv ∧ unitField w = unit ∧ opcField w = opc := by
  constructor
  · rintro rfl
    simp
  · rintro ⟨rfl, rfl, rfl, rfl⟩
    exact (assemble_fields w).symm

/-- Masking a word masks each field. -/
theorem assemble_and (imm imm' : BitVec 16) (rsv rsv' : BitVec 6) (unit unit' : BitVec 2)
    (opc opc' : BitVec 8) :
    assemble imm rsv unit opc &&& assemble imm' rsv' unit' opc'
      = assemble (imm &&& imm') (rsv &&& rsv') (unit &&& unit') (opc &&& opc') := by
  simp only [assemble, ← BitVec.and_append]

/-- The encoder's shifts place the three fields, with RSV 0 (R149). -/
theorem commandWord_eq_assemble (opc : BitVec 8) (unit : BitVec 2) (imm : BitVec 16) :
    commandWord opc (unit.setWidth 32) imm = assemble imm 0#6 unit opc := by
  have h : assemble imm 0#6 unit opc = imm.setWidth 32 <<< 16 ||| (0#6).setWidth 32 <<< 10
      ||| unit.setWidth 32 <<< 8 ||| opc.setWidth 32 :=
    (BitVec.setWidth_eq _).symm.trans BitVec.setWidth_append_append_append_eq_shiftLeft_setWidth_or
  rw [h, BitVec.setWidth_zero, BitVec.zero_shiftLeft, BitVec.or_zero, commandWord, BitVec.or_comm,
    BitVec.or_comm (opc.setWidth 32), BitVec.or_assoc]

/-! ### The fields of an encoding -/

/-- The UNIT field that names a unit (R141). -/
def unitCode : UnitId → BitVec 2
  | .radiator => 0#2
  | .boiler => 1#2

theorem unitBits_eq (u : UnitId) : unitBits u = (unitCode u).setWidth 32 := by
  cases u <;> rfl

/-- An encoding is IMM, RSV 0, UNIT and the opcode of its row (R141 to R145). -/
theorem encode_eq_assemble (i : Instr) :
    encode i = assemble (immOf i) 0#6 (unitOf i) (opcodeOf i) := by
  cases i with
  | nop | srchStart | srchNext | crcClr | crcAddr | decSensor | decTc | slice =>
    exact commandWord_eq_assemble _ 0#2 _
  | crcByte b | actSet b | actClr b =>
    rw [encode, BitVec.zeroExtend_eq_setWidth, BitVec.setWidth_eq_append (by decide)]
    exact commandWord_eq_assemble _ 0#2 _
  | regSettgt u | regStep u | regReset u | casSensor u | casStep u | casGetout u | casGetabs u =>
    rw [encode, unitBits_eq, commandWord_eq_assemble]
    cases u <;> rfl

/-- A word is the encoding of a command when its four fields are that command's. -/
theorem eq_encode_iff {w : Word} {i : Instr} : w = encode i ↔
    immField w = immOf i ∧ rsvField w = 0#6 ∧ unitField w = unitOf i ∧ opcField w = opcodeOf i := by
  rw [encode_eq_assemble, eq_assemble_iff]

/-! ### The decoders of the operand forms -/

theorem decodePlain_eq_ok_iff {i j : Instr} {w : Word} :
    decodePlain i w = .ok j ↔ unitField w = 0#2 ∧ immField w = 0#16 ∧ i = j := by
  unfold decodePlain
  split_ifs <;> simp_all

theorem decodeRaw_eq_ok_iff {i : BitVec 16 → Instr} {j : Instr} {w : Word} :
    decodeRaw i w = .ok j ↔ unitField w = 0#2 ∧ i (immField w) = j := by
  unfold decodeRaw
  split_ifs <;> simp_all

/-- IMM is a byte when its high half is 0 (R142). -/
theorem immField_eq_byte_iff {w : Word} {b : BitVec 8} :
    immField w = 0#8 ++ b ↔ w.extractLsb' 24 8 = 0#8 ∧ byteField w = b := by
  have himm : immField w = w.extractLsb' 24 8 ++ byteField w :=
    (BitVec.extractLsb'_append_extractLsb'_eq_extractLsb' (start₁ := 16) (len₁ := 8) rfl).symm
  exact himm ▸ bits_append_eq_append_iff

/-- IMM is a bit number when its high 13 bits are 0 (R142). -/
theorem immField_eq_bit_iff {w : Word} {b : BitVec 3} :
    immField w = 0#13 ++ b ↔ w.extractLsb' 19 13 = 0#13 ∧ bitField w = b := by
  have himm : immField w = w.extractLsb' 19 13 ++ bitField w :=
    (BitVec.extractLsb'_append_extractLsb'_eq_extractLsb' (start₁ := 16) (len₁ := 3) rfl).symm
  exact himm ▸ bits_append_eq_append_iff

theorem decodeByte_eq_ok_iff {i : BitVec 8 → Instr} {j : Instr} {w : Word} :
    decodeByte i w = .ok j ↔ unitField w = 0#2 ∧ ∃ b, immField w = 0#8 ++ b ∧ i b = j := by
  simp only [immField_eq_byte_iff]
  unfold decodeByte
  split_ifs <;> simp_all

theorem decodeBit_eq_ok_iff {i : BitVec 3 → Instr} {j : Instr} {w : Word} :
    decodeBit i w = .ok j ↔ unitField w = 0#2 ∧ ∃ b, immField w = 0#13 ++ b ∧ i b = j := by
  simp only [immField_eq_bit_iff]
  unfold decodeBit
  split_ifs <;> simp_all

theorem decodeUnit_eq_ok_iff {u : UnitId} {w : Word} :
    decodeUnit w = .ok u ↔ unitField w = unitCode u := by
  unfold decodeUnit
  cases u <;> split_ifs <;> simp_all [unitCode]

theorem decodeUnitSimm_eq_ok_iff {i : UnitId → BitVec 16 → Instr} {j : Instr} {w : Word} :
    decodeUnitSimm i w = .ok j ↔ ∃ u, unitField w = unitCode u ∧ i u (immField w) = j := by
  simp only [← decodeUnit_eq_ok_iff]
  cases h : decodeUnit w <;> simp [decodeUnitSimm, h]

theorem decodeUnitPlain_eq_ok_iff {i : UnitId → Instr} {j : Instr} {w : Word} :
    decodeUnitPlain i w = .ok j ↔ ∃ u, unitField w = unitCode u ∧ immField w = 0#16 ∧ i u = j := by
  simp only [← decodeUnit_eq_ok_iff]
  cases h : decodeUnit w with
  | error e => simp [decodeUnitPlain, h]
  | ok u => by_cases himm : immField w = 0#16 <;> simp [decodeUnitPlain, h, himm]

/-! ### The decoder -/

/-- The decoder of the operands of the row a command stands in. -/
def operandDecoder : Instr → Word → Except DecodeError Instr
  | .nop => decodePlain .nop
  | .srchStart => decodePlain .srchStart
  | .srchNext => decodePlain .srchNext
  | .crcClr => decodePlain .crcClr
  | .crcByte _ => decodeByte .crcByte
  | .crcAddr => decodePlain .crcAddr
  | .decSensor _ => decodeRaw .decSensor
  | .decTc _ => decodeRaw .decTc
  | .regSettgt _ _ => decodeUnitSimm .regSettgt
  | .regStep _ _ => decodeUnitSimm .regStep
  | .regReset _ => decodeUnitPlain .regReset
  | .casSensor _ _ => decodeUnitSimm .casSensor
  | .casStep _ => decodeUnitPlain .casStep
  | .casGetout _ => decodeUnitPlain .casGetout
  | .casGetabs _ => decodeUnitPlain .casGetabs
  | .actSet _ => decodeBit .actSet
  | .actClr _ => decodeBit .actClr
  | .slice => decodePlain .slice

/-- The opcode map sends a word to the operand decoder of the row whose opcode it carries (R145). -/
theorem decodeOpcode_of_opcode {w : Word} {i : Instr} (h : opcField w = opcodeOf i) :
    decodeOpcode w = operandDecoder i w := by
  cases i <;> (rw [decodeOpcode, h]; rfl)

/-- A word whose opcode is no command's falls through the 18 rows of the map (R146). -/
theorem decodeOpcode_of_no_opcode {w : Word} (h : ∀ i, opcField w ≠ opcodeOf i) :
    decodeOpcode w = .error .unknownOpcode :=
  (if_neg (h .nop)).trans <| (if_neg (h .srchStart)).trans <| (if_neg (h .srchNext)).trans <|
    (if_neg (h .crcClr)).trans <| (if_neg (h (.crcByte 0))).trans <| (if_neg (h .crcAddr)).trans <|
    (if_neg (h (.decSensor 0))).trans <| (if_neg (h (.decTc 0))).trans <|
    (if_neg (h (.regSettgt .radiator 0))).trans <| (if_neg (h (.regStep .radiator 0))).trans <|
    (if_neg (h (.regReset .radiator))).trans <| (if_neg (h (.casSensor .radiator 0))).trans <|
    (if_neg (h (.casStep .radiator))).trans <| (if_neg (h (.casGetout .radiator))).trans <|
    (if_neg (h (.casGetabs .radiator))).trans <| (if_neg (h (.actSet 0))).trans <|
    (if_neg (h (.actClr 0))).trans <| if_neg (h .slice)

/-- A row's operand decoder reads back the operands of every command of the row. -/
theorem operandDecoder_of_fields {w : Word} {i : Instr} (himm : immField w = immOf i)
    (hunit : unitField w = unitOf i) : operandDecoder i w = .ok i := by
  cases i with
  | nop | srchStart | srchNext | crcClr | crcAddr | slice =>
    exact decodePlain_eq_ok_iff.mpr ⟨hunit, himm, rfl⟩
  | crcByte b => exact decodeByte_eq_ok_iff.mpr ⟨hunit, b, himm, rfl⟩
  | decSensor raw | decTc raw => exact decodeRaw_eq_ok_iff.mpr ⟨hunit, congrArg _ himm⟩
  | regSettgt u v | regStep u v | casSensor u v =>
    refine decodeUnitSimm_eq_ok_iff.mpr ⟨u, ?_, congrArg _ himm⟩
    cases u <;> exact hunit
  | regReset u | casStep u | casGetout u | casGetabs u =>
    refine decodeUnitPlain_eq_ok_iff.mpr ⟨u, ?_, himm, rfl⟩
    cases u <;> exact hunit
  | actSet b | actClr b => exact decodeBit_eq_ok_iff.mpr ⟨hunit, b, himm, rfl⟩

/-- What a row's operand decoder answers is a command of the row, with the word's UNIT and IMM. -/
theorem fields_of_operandDecoder {w : Word} {i j : Instr} (h : operandDecoder i w = .ok j) :
    immField w = immOf j ∧ unitField w = unitOf j ∧ opcodeOf i = opcodeOf j := by
  cases i with
  | nop | srchStart | srchNext | crcClr | crcAddr | slice =>
    obtain ⟨hunit, himm, rfl⟩ := decodePlain_eq_ok_iff.mp h
    exact ⟨himm, hunit, rfl⟩
  | crcByte b =>
    obtain ⟨hunit, b, himm, rfl⟩ := decodeByte_eq_ok_iff.mp h
    exact ⟨himm, hunit, rfl⟩
  | decSensor raw | decTc raw =>
    obtain ⟨hunit, rfl⟩ := decodeRaw_eq_ok_iff.mp h
    exact ⟨rfl, hunit, rfl⟩
  | regSettgt u v | regStep u v | casSensor u v =>
    obtain ⟨u, hunit, rfl⟩ := decodeUnitSimm_eq_ok_iff.mp h
    cases u <;> exact ⟨rfl, hunit, rfl⟩
  | regReset u | casStep u | casGetout u | casGetabs u =>
    obtain ⟨u, hunit, himm, rfl⟩ := decodeUnitPlain_eq_ok_iff.mp h
    cases u <;> exact ⟨himm, hunit, rfl⟩
  | actSet b | actClr b =>
    obtain ⟨hunit, b, himm, rfl⟩ := decodeBit_eq_ok_iff.mp h
    exact ⟨himm, hunit, rfl⟩

theorem decodeOpcode_eq_ok_iff {w : Word} {i : Instr} : decodeOpcode w = .ok i ↔
    immField w = immOf i ∧ unitField w = unitOf i ∧ opcField w = opcodeOf i := by
  constructor
  · intro h
    by_cases hrow : ∃ k, opcField w = opcodeOf k
    · obtain ⟨k, hk⟩ := hrow
      rw [decodeOpcode_of_opcode hk] at h
      exact hk ▸ fields_of_operandDecoder h
    · rw [decodeOpcode_of_no_opcode (not_exists.mp hrow)] at h
      exact nomatch h
  · rintro ⟨himm, hunit, hopc⟩
    rw [decodeOpcode_of_opcode hopc, operandDecoder_of_fields himm hunit]

theorem decode_of_opcode {w : Word} {i : Instr} (hrsv : rsvField w = 0#6)
    (hopc : opcField w = opcodeOf i) : decode w = operandDecoder i w := by
  rw [decode, if_neg (not_not.mpr hrsv), decodeOpcode_of_opcode hopc]

/-- Decoding inverts encoding, both ways: a word decodes to the command whose encoding it is, and to no
other (R141 to R149). -/
theorem decode_eq_ok_iff {w : Word} {i : Instr} : decode w = .ok i ↔ w = encode i := by
  rw [eq_encode_iff, decode]
  by_cases hrsv : rsvField w = 0#6 <;> simp [hrsv, decodeOpcode_eq_ok_iff]

/-- Settles O2: decoding inverts encoding. -/
theorem decodeReadsBackEveryEncoding : Obligations.DecodeReadsBackEveryEncoding :=
  fun _ => decode_eq_ok_iff.mpr rfl

/-- Settles O3: a word that decodes is an encoding, and an encoding is its four fields. -/
theorem decodableWordIsItsEncoding : Obligations.DecodableWordIsItsEncoding := by
  intro w i h
  obtain rfl := decode_eq_ok_iff.mp h
  exact ⟨rfl, encode_eq_assemble i⟩

/-- Settles O1: each word is the encoding of its command. -/
theorem sampleWordsDecode : Obligations.SampleWordsDecode := by
  refine ⟨?_, ?_, ?_, ?_, ?_, ?_, ?_, ?_, ?_, ?_, ?_, ?_, ?_, ?_, ?_, ?_, ?_, ?_⟩ <;>
    exact decode_eq_ok_iff.mpr rfl

/-! ### The match and mask table -/

/-- The bits of UNIT a row fixes (R145): both, or the high one where the command takes a unit. -/
def unitMaskOf : Instr → BitVec 2
  | .regSettgt _ _ | .regStep _ _ | .regReset _ | .casSensor _ _ | .casStep _ | .casGetout _
  | .casGetabs _ => BitVec.allOnes 1 ++ 0#1
  | .nop | .srchStart | .srchNext | .crcClr | .crcByte _ | .crcAddr | .decSensor _ | .decTc _
  | .actSet _ | .actClr _ | .slice => BitVec.allOnes 2

/-- The bits of IMM a row fixes (R145): those outside the command's immediate. -/
def immMaskOf : Instr → BitVec 16
  | .crcByte _ => BitVec.allOnes 8 ++ 0#8
  | .actSet _ | .actClr _ => BitVec.allOnes 13 ++ 0#3
  | .decSensor _ | .decTc _ | .regSettgt _ _ | .regStep _ _ | .casSensor _ _ => 0#16
  | .nop | .srchStart | .srchNext | .crcClr | .crcAddr | .regReset _ | .casStep _ | .casGetout _
  | .casGetabs _ | .slice => BitVec.allOnes 16

/-- A command's row of the table, from its opcode and the fields its row fixes. -/
def rowOf (i : Instr) : Word × Word :=
  (assemble 0#16 0#6 0#2 (opcodeOf i),
    assemble (immMaskOf i) (BitVec.allOnes 6) (unitMaskOf i) (BitVec.allOnes 8))

/-- The rows of the table are the rows of the commands. -/
theorem mem_matchMaskRows_iff {row : Word × Word} : row ∈ matchMaskRows ↔ ∃ i, rowOf i = row := by
  constructor
  · have hrows : matchMaskRows = [.nop, .srchStart, .srchNext, .crcClr, .crcByte 0, .crcAddr,
        .decSensor 0, .decTc 0, .regSettgt .radiator 0, .regStep .radiator 0, .regReset .radiator,
        .casSensor .radiator 0, .casStep .radiator, .casGetout .radiator, .casGetabs .radiator,
        .actSet 0, .actClr 0, .slice].map rowOf := by decide
    rw [hrows]
    intro h
    obtain ⟨i, -, hi⟩ := List.mem_map.mp h
    exact ⟨i, hi⟩
  · rintro ⟨i, rfl⟩
    cases i <;> (simp only [rowOf, immMaskOf, unitMaskOf, opcodeOf]; decide)

/-- A word matches a command's row when OPC is the row's, RSV is 0 and the fixed bits of UNIT and IMM
are 0. -/
theorem matches_rowOf_iff {w : Word} {i : Instr} : w &&& (rowOf i).2 = (rowOf i).1 ↔
    immField w &&& immMaskOf i = 0#16 ∧ rsvField w = 0#6 ∧ unitField w &&& unitMaskOf i = 0#2
    ∧ opcField w = opcodeOf i := by
  have hmasked : w &&& (rowOf i).2 = assemble (immField w &&& immMaskOf i)
      (rsvField w &&& BitVec.allOnes 6) (unitField w &&& unitMaskOf i)
      (opcField w &&& BitVec.allOnes 8) := by
    rw [← assemble_and, assemble_fields]
    rfl
  rw [hmasked, rowOf, eq_assemble_iff, BitVec.and_allOnes, BitVec.and_allOnes]
  simp

/-- The bits of a field under a mask of its high part are 0 when the field is its low part. -/
theorem and_highMask_eq_zero_iff {m n : Nat} (v : BitVec (m + n)) :
    v &&& (BitVec.allOnes m ++ 0#n : BitVec (m + n)) = 0#(m + n)
      ↔ ∃ b : BitVec n, v = (0#m ++ b : BitVec (m + n)) := by
  rw [← BitVec.extractLsb'_append_extractLsb' (x := v), BitVec.and_append, BitVec.and_allOnes,
    BitVec.and_zero, ← BitVec.zero_append_zero]
  simp only [bits_append_eq_append_iff, and_true, exists_and_left, exists_eq']

/-- The high bit of UNIT is 0 when it names one of the two units (R141, R143). -/
theorem and_unitMask_eq_zero_iff (unit : BitVec 2) :
    unit &&& (BitVec.allOnes 1 ++ 0#1) = 0#2 ↔ ∃ u, unit = unitCode u := by
  constructor
  · intro h
    obtain rfl | rfl : unit = unitCode .radiator ∨ unit = unitCode .boiler := by decide +revert
    · exact ⟨.radiator, rfl⟩
    · exact ⟨.boiler, rfl⟩
  · rintro ⟨u, rfl⟩
    cases u <;> rfl

/-- A row's operand decoder answers exactly when the bits of UNIT and IMM the row fixes are 0. -/
theorem exists_operandDecoder_iff {w : Word} {i : Instr} : (∃ j, operandDecoder i w = .ok j) ↔
    immField w &&& immMaskOf i = 0#16 ∧ unitField w &&& unitMaskOf i = 0#2 := by
  have hbyte := and_highMask_eq_zero_iff (m := 8) (n := 8) (immField w)
  have hbit := and_highMask_eq_zero_iff (m := 13) (n := 3) (immField w)
  have hunit := and_unitMask_eq_zero_iff (unitField w)
  have himm : immField w &&& BitVec.allOnes 16 = immField w := BitVec.and_allOnes
  have hno : unitField w &&& BitVec.allOnes 2 = unitField w := BitVec.and_allOnes
  cases i with
  | nop | srchStart | srchNext | crcClr | crcAddr | slice =>
    simp only [operandDecoder, immMaskOf, unitMaskOf, decodePlain_eq_ok_iff, himm, hno]
    simp [and_comm]
  | crcByte b =>
    simp only [operandDecoder, immMaskOf, unitMaskOf, decodeByte_eq_ok_iff, hbyte, hno]
    simp [and_comm]
  | decSensor raw | decTc raw =>
    simp only [operandDecoder, immMaskOf, unitMaskOf, decodeRaw_eq_ok_iff, hno]
    simp
  | regSettgt u v | regStep u v | casSensor u v =>
    simp only [operandDecoder, immMaskOf, unitMaskOf, decodeUnitSimm_eq_ok_iff, hunit]
    simp
  | regReset u | casStep u | casGetout u | casGetabs u =>
    simp only [operandDecoder, immMaskOf, unitMaskOf, decodeUnitPlain_eq_ok_iff, himm, hunit]
    simp [and_comm]
  | actSet b | actClr b =>
    simp only [operandDecoder, immMaskOf, unitMaskOf, decodeBit_eq_ok_iff, hbit, hno]
    simp [and_comm]

/-- A word decodes exactly when it matches a row: its row's operand decoder answers exactly when the bits
the row fixes are 0 (R146, R148). -/
theorem exists_decode_iff_exists_row (w : Word) :
    (∃ i, decode w = .ok i) ↔ ∃ row ∈ matchMaskRows, w &&& row.2 = row.1 := by
  simp only [mem_matchMaskRows_iff, exists_exists_eq_and, matches_rowOf_iff]
  constructor
  · rintro ⟨i, h⟩
    obtain ⟨himm, hrsv, hunit, hopc⟩ := eq_encode_iff.mp (decode_eq_ok_iff.mp h)
    obtain ⟨himm', hunit'⟩ := exists_operandDecoder_iff.mp ⟨i, operandDecoder_of_fields himm hunit⟩
    exact ⟨i, himm', hrsv, hunit', hopc⟩
  · rintro ⟨i, himm, hrsv, hunit, hopc⟩
    rw [decode_of_opcode hrsv hopc]
    exact exists_operandDecoder_iff.mpr ⟨himm, hunit⟩

/-- No two rows have one opcode (R145), and a word has one: it matches at most one row (R148). -/
theorem countP_matching_rows_le_one (w : Word) :
    matchMaskRows.countP (fun row => w &&& row.2 == row.1) ≤ 1 := by
  have hnodup : (matchMaskRows.map fun row => opcField row.1).Nodup := by decide
  calc matchMaskRows.countP (fun row => w &&& row.2 == row.1)
    _ ≤ matchMaskRows.countP ((· == opcField w) ∘ fun row => opcField row.1) := by
      refine List.countP_mono_left fun row hrow hmatch => ?_
      obtain ⟨i, rfl⟩ := mem_matchMaskRows_iff.mp hrow
      obtain ⟨-, -, -, hopc⟩ := matches_rowOf_iff.mp (beq_iff_eq.mp hmatch)
      simp [rowOf, hopc]
    _ = (matchMaskRows.map fun row => opcField row.1).count (opcField w) := List.countP_map.symm
    _ ≤ 1 := List.nodup_iff_count_le_one.mp hnodup _

/-- Settles O4: the rows are the commands' rows, and their opcodes differ. -/
theorem decodeAcceptsExactlyTheTableRows : Obligations.DecodeAcceptsExactlyTheTableRows :=
  fun w => ⟨exists_decode_iff_exists_row w, countP_matching_rows_le_one w⟩

/-! ### Placing a word -/

theorem decodeTableWord_eq_some_iff {w : Nat} {i : Instr} :
    decodeTableWord 32 w = some i ↔ decode (BitVec.ofNat 32 (w % 2 ^ 32)) = .ok i := by
  unfold decodeTableWord
  split <;> simp_all

/-- A write of CMD is at offset 0 and issues the word written (R183). -/
theorem performAccess_write_cmd (w : Word) (s : State) :
    performAccess (.write 32 0x000 w) s = issue w s := rfl

theorem issue_of_decode {w : Word} {i : Instr} {s : State} (hfault : s.status.fault = false)
    (h : decode w = .ok i) : issue w s = exec i s := by
  simp [issue, hfault, h]

/-- Settles O6: the placed write stands first, and a write of CMD runs the decoded command. -/
theorem placedWordRunsNext : Obligations.PlacedWordRunsNext := by
  intro s w i hwf hfault h
  have hdecode := decodeTableWord_eq_some_iff.mp h
  have hstep := step_access (s := s.withFetchWord 32 w) hwf rfl rfl
  exact (hstep.trans (performAccess_write_cmd _ _)).trans (issue_of_decode hfault hdecode)

end Sys2Proof.Proofs
end

section
/-! PROOFS. Issuing a command through CMD, and NOP (R180, R183). -/

namespace Sys2Proof.Proofs

open Sys2Proof.Machine Sys2Proof.Safety

/-- Settles O5: the step takes the access, the write of CMD issues its word, and the word decodes. -/
theorem stepRunsTheDecodedCommand : Obligations.StepRunsTheDecodedCommand := by
  intro s w i rest hwf hslice hfault hinputs hdecode
  calc step s
    _ = performAccess (.write 32 0x000 w) { s with inputs := rest } := step_access hwf hslice hinputs
    _ = issue w { s with inputs := rest } := performAccess_write_cmd w _
    _ = exec i { s with inputs := rest } := issue_of_decode hfault hdecode

/-- Settles O20: a command runs to the state `after` names, and after NOP that is the state before. -/
theorem nopChangesNothing : Obligations.NopChangesNothing := by
  intro s
  calc exec .nop s
    _ = .next (after .nop s) := exec_eq_after .nop s
    _ = .next s := congrArg _ (after_nop s)

end Sys2Proof.Proofs
end

section
/-! PROOFS. The decoders of temperature readings (R190 to R194). -/

namespace Sys2Proof.Proofs

open Sys2Proof.Machine Sys2Proof.Safety

/-! ### A decoder's result -/

/-- A decoder writes RES and STATUS.VALID only (R190). -/
theorem decoded_frame (v : Half) (s : State) :
    decoded v s = { s with
      res := (decoded v s).res,
      status := { s.status with valid := (decoded v s).status.valid } } := rfl

/-- VALID says that the decoded value is a temperature (R192, R194). -/
theorem decoded_valid_eq_true_iff {v : Half} {s : State} :
    (decoded v s).status.valid = true ↔ v ≠ invalidTemp := bne_iff_ne

/-- A decoder that finds no temperature returns -32768 and clears VALID (R20, R192, R194). -/
theorem decoded_invalidTemp (s : State) :
    (decoded invalidTemp s).res.toInt = -32768 ∧ (decoded invalidTemp s).status.valid = false :=
  ⟨toInt_sext32 invalidTemp, bne_self_eq_false invalidTemp⟩

/-! ### Sensor readings -/

theorem sensorValue_of_inRange {c : Config} {raw : Half}
    (h : c.sensorMin ≤ raw.toInt ∧ raw.toInt ≤ c.sensorMax) : sensorValue c raw = raw := if_pos h

theorem sensorValue_of_outOfRange {c : Config} {raw : Half}
    (h : raw.toInt < c.sensorMin ∨ c.sensorMax < raw.toInt) : sensorValue c raw = invalidTemp :=
  if_neg (by omega)

theorem wf_sensorMin {c : Config} (h : c.wf = true) : -32768 < c.sensorMin := by
  simp only [Config.wf, Bool.and_eq_true, decide_eq_true_eq] at h
  simp only [h]

/-- SENSOR_MIN is above -32768 (R15), so no reading in range is the sentinel (R191). -/
theorem ne_invalidTemp_of_sensorMin_le {c : Config} (hwf : c.wf = true) {raw : Half}
    (h : c.sensorMin ≤ raw.toInt) : raw ≠ invalidTemp := by
  rintro rfl
  have hmin := wf_sensorMin hwf
  have hsentinel : invalidTemp.toInt = -32768 := rfl
  omega

/-- Settles O21: DEC_SENSOR leaves `decoded` of the sensor value, and the range check decides which it is. -/
theorem sensorReadingDecodes : Obligations.SensorReadingDecodes := by
  intro s raw hwf
  refine ⟨_, exec_eq_after (.decSensor raw) s, decoded_frame _ s, ?inRange, ?outOfRange⟩
  case inRange =>
    intro h
    rw [after_decSensor, sensorValue_of_inRange h]
    exact ⟨toInt_sext32 raw, decoded_valid_eq_true_iff.mpr (ne_invalidTemp_of_sensorMin_le hwf h.1)⟩
  case outOfRange =>
    intro h
    rw [after_decSensor, sensorValue_of_outOfRange h]
    exact decoded_invalidTemp s

/-! ### Thermocouple readings -/

theorem thermocoupleValue_of_flagged {raw : Half}
    (h : raw.getLsbD 15 = true ∨ raw.getLsbD 2 = true) : thermocoupleValue raw = invalidTemp :=
  if_pos (Bool.or_eq_true_iff.mpr h)

/-- A good frame carries the count `raw[14:3]`, and its value is four times that, at most 16380 (R193). -/
theorem toNat_thermocoupleValue {raw : Half}
    (h : raw.getLsbD 15 = false ∧ raw.getLsbD 2 = false) :
    (thermocoupleValue raw).toNat = 4 * (raw.toNat / 8) ∧ (thermocoupleValue raw).toNat ≤ 16380 := by
  obtain ⟨hframe, hopen⟩ := h
  have hraw : raw.toNat < 2 ^ 15 := BitVec.toNat_lt_of_msb_false hframe
  have hvalue : thermocoupleValue raw = (raw.extractLsb' 3 12).zeroExtend 16 <<< 2 :=
    if_neg (by rw [hframe, hopen]; decide)
  simp only [hvalue, BitVec.toNat_shiftLeft, BitVec.truncate_eq_setWidth, BitVec.toNat_setWidth,
    BitVec.extractLsb'_toNat, Nat.shiftLeft_eq, Nat.shiftRight_eq_div_pow]
  omega

/-- `sext32` keeps a number that is not negative (R103). -/
theorem toNat_sext32_of_lt {v : Half} (h : v.toNat < 2 ^ 15) : (sext32 v).toNat = v.toNat := by
  have hmsb : v.msb = false := BitVec.msb_eq_false_iff_two_mul_lt.mpr (by omega)
  rw [sext32, BitVec.signExtend_eq_setWidth_of_msb_false hmsb, BitVec.toNat_setWidth]
  omega

/-- Settles O22: DEC_TC leaves `decoded` of the thermocouple value; a count's value is below 2^15, so it is
not the sentinel and its sign extension keeps it. -/
theorem thermocoupleReadingDecodes : Obligations.ThermocoupleReadingDecodes := by
  intro s raw
  refine ⟨_, exec_eq_after (.decTc raw) s, decoded_frame _ s, ?flagged, ?count⟩
  case flagged =>
    intro h
    rw [after_decTc, thermocoupleValue_of_flagged h]
    exact decoded_invalidTemp s
  case count =>
    intro h
    obtain ⟨hvalue, hle⟩ := toNat_thermocoupleValue h
    have hres : (decoded (thermocoupleValue raw) s).res.toNat = (thermocoupleValue raw).toNat :=
      toNat_sext32_of_lt (by omega)
    have hne : thermocoupleValue raw ≠ invalidTemp := by
      intro heq
      rw [heq] at hle
      exact absurd hle (by decide)
    exact ⟨hres.trans hvalue, hres.trans_le hle, decoded_valid_eq_true_iff.mpr hne⟩

end Sys2Proof.Proofs
end

section
/-! PROOFS. The CRC8 unit: one byte of the CRC as a shift register, the CRC of a list of bytes, and the
three commands (R196 to R201). -/

namespace Sys2Proof.Proofs

open Sys2Proof.Machine Sys2Proof.Safety

/-! ### One byte as a shift register -/

/-- One shift of the CRC's register: `crc8Bit` on the difference of the accumulator and the byte. -/
def crc8Shift (x : Byte) : Byte := if x.getLsbD 0 then x >>> 1 ^^^ 0x8C#8 else x >>> 1

/-- One bit of the CRC shifts the difference of the accumulator and the byte (R196). -/
theorem xor_crc8Bit (cb : Byte × Byte) :
    (crc8Bit cb).1 ^^^ (crc8Bit cb).2 = crc8Shift (cb.1 ^^^ cb.2) := by
  obtain ⟨c, b⟩ := cb
  simp only [crc8Bit, crc8Shift, BitVec.ushiftRight_xor_distrib]
  split <;> ac_rfl

/-- After `n` bits of the CRC the difference is shifted `n` times, and `n` bits of the byte are used up. -/
theorem iterate_crc8Bit (n : Nat) (cb : Byte × Byte) :
    (crc8Bit^[n] cb).1 ^^^ (crc8Bit^[n] cb).2 = crc8Shift^[n] (cb.1 ^^^ cb.2)
    ∧ (crc8Bit^[n] cb).2 = cb.2 >>> n := by
  induction n generalizing cb with
  | zero => exact ⟨rfl, (BitVec.ushiftRight_zero _).symm⟩
  | succ n ih =>
    obtain ⟨hxor, hbyte⟩ := ih (crc8Bit cb)
    simp only [Function.iterate_succ_apply]
    exact ⟨hxor.trans (congrArg _ (xor_crc8Bit cb)),
      hbyte.trans ((BitVec.shiftRight_add _ 1 n).symm.trans (by rw [Nat.add_comm]))⟩

/-- One byte of the CRC: eight shifts of the difference of the accumulator and the byte (R196). -/
theorem crc8Step_eq_iterate (c b : Byte) : crc8Step c b = crc8Shift^[8] (c ^^^ b) := by
  obtain ⟨hxor, hbyte⟩ := iterate_crc8Bit 8 (c, b)
  have hused : (crc8Bit^[8] (c, b)).2 = 0#8 := hbyte.trans (BitVec.ushiftRight_eq_zero (by decide))
  rw [hused, BitVec.xor_zero] at hxor
  exact hxor

/-- The polynomial sets the bit that the shift clears, so a shift can be undone. -/
theorem crc8Shift_injective : Function.Injective crc8Shift := by
  have htop (x : Byte) : (crc8Shift x).getLsbD 7 = x.getLsbD 0 := by
    unfold crc8Shift
    split <;> simp_all
  intro x y h
  have hlow : x.getLsbD 0 = y.getLsbD 0 := by rw [← htop x, ← htop y, h]
  have hhigh : x >>> 1 = y >>> 1 := by
    unfold crc8Shift at h
    rw [hlow] at h
    split at h
    · exact (BitVec.xor_left_inj _).mp h
    · exact h
  refine BitVec.eq_of_getLsbD_eq fun i _ => ?_
  cases i with
  | zero => exact hlow
  | succ i => simpa [Nat.add_comm] using congrArg (·.getLsbD i) hhigh

/-- Two bytes of the CRC agree exactly when their differences from the accumulator do. -/
theorem crc8Step_eq_crc8Step_iff {c b c' b' : Byte} :
    crc8Step c b = crc8Step c' b' ↔ c ^^^ b = c' ^^^ b' := by
  rw [crc8Step_eq_iterate, crc8Step_eq_iterate, (crc8Shift_injective.iterate 8).eq_iff]

theorem crc8Step_eq_zero_iff {c b : Byte} : crc8Step c b = 0#8 ↔ b = c := by
  have hzero : crc8Step 0#8 0#8 = 0#8 := by decide
  rw [← hzero, crc8Step_eq_crc8Step_iff, BitVec.xor_self, BitVec.xor_eq_zero_iff, eq_comm]

/-! ### The CRC of a list of bytes -/

/-- Bytes followed by one more leave 0 exactly when that one is their CRC (R200). -/
theorem crc8_concat_eq_zero_iff {l : List Byte} {c : Byte} : crc8 (l ++ [c]) = 0#8 ↔ c = crc8 l := by
  rw [crc8_append, List.foldl_cons, List.foldl_nil, crc8Step_eq_zero_iff]

/-- The bytes that follow keep two accumulators apart. -/
theorem foldl_crc8Step_injective (l : List Byte) :
    Function.Injective fun c => l.foldl crc8Step c := by
  induction l with
  | nil => exact Function.injective_id
  | cons b l ih =>
    intro c c' h
    exact (BitVec.xor_left_inj b).mp (crc8Step_eq_crc8Step_iff.mp (ih h))

/-- Replacing one byte keeps the CRC only when it is the byte that stood there. -/
theorem eq_getElem_of_crc8_set_eq {l : List Byte} {j : Nat} {b : Byte} (hj : j < l.length)
    (h : crc8 (l.set j b) = crc8 l) : b = l[j] := by
  have hsplit (x : Byte) : crc8 (l.set j x)
      = (l.drop (j + 1)).foldl crc8Step (crc8Step (crc8 (l.take j)) x) := by
    rw [List.set_eq_take_append_cons_drop, if_pos hj, crc8_append, List.foldl_cons]
  rw [← List.set_getElem_self hj, List.set_set, hsplit, hsplit] at h
  exact (BitVec.xor_right_inj _).mp (crc8Step_eq_crc8Step_iff.mp (foldl_crc8Step_injective _ h))

/-! ### The commands -/

/-- Settles O23: after CRC_CLR the state `after` names is the one before with its accumulator cleared. -/
theorem crcClrClearsTheAccumulator : Obligations.CrcClrClearsTheAccumulator := by
  intro s
  calc exec .crcClr s
    _ = .next (after .crcClr s) := exec_eq_after .crcClr s
    _ = .next { s with crcAcc := 0#8 } := congrArg _ (after_crcClr s)

/-- Settles O24: the state `after` names holds the accumulated byte twice; the sample values are computed. -/
theorem crcByteAccumulatesOneByte : Obligations.CrcByteAccumulatesOneByte := by
  refine ⟨fun s b => ⟨crc8Step s.crcAcc b, ?_, rfl⟩, by decide⟩
  calc exec (.crcByte b) s
    _ = .next (after (.crcByte b) s) := exec_eq_after (.crcByte b) s
    _ = .next { s with crcAcc := crc8Step s.crcAcc b, res := (crc8Step s.crcAcc b).zeroExtend 32 } :=
      congrArg _ (after_crcByte b s)

/-- Settles O25: the payload of ADDR_IN is its first seven bytes, and the comparison is with the eighth. -/
theorem crcAddrValidatesTheAddress : Obligations.CrcAddrValidatesTheAddress :=
  fun s => ⟨crc8 (addrPayload s.addrIn), crc8 (addrPayload s.addrIn) == addrByte s.addrIn 7,
    exec_eq_after .crcAddr s, rfl, beq_iff_eq⟩

/-- A run of CRC_BYTE accumulates its bytes in order (R198). -/
theorem issueAll_crcByte_crcAcc (l : List Byte) (s : State) :
    (issueAll (l.map Instr.crcByte) s).crcAcc = l.foldl crc8Step s.crcAcc := by
  induction l generalizing s with
  | nil => rfl
  | cons b l ih => exact ih (after (.crcByte b) s)

/-- Settles O26: a run from a cleared accumulator leaves the CRC of its bytes, and a last byte cancels the
CRC of those before it only when it is that CRC. -/
theorem crcResidueIsZeroExactlyOnAMatch : Obligations.CrcResidueIsZeroExactlyOnAMatch := by
  refine ⟨fun bytes => crc8_concat_eq_zero_iff.mpr rfl, fun s bytes c hacc => ?_⟩
  have hrun : (issueAll ((bytes ++ [c]).map Instr.crcByte) s).crcAcc = crc8 (bytes ++ [c]) := by
    rw [issueAll_crcByte_crcAcc, hacc, crc8]
  rw [hrun, crc8_concat_eq_zero_iff]

/-! ### A single flipped bit -/

/-- The eight bytes of an address, the CRC byte last (R21, R34). -/
def addrBytes (a : DeviceAddress) : List Byte := addrPayload a ++ [addrByte a 7]

/-- An address is right when its eight bytes leave 0 (R200). -/
theorem crc8_addrBytes_eq_zero_iff {a : DeviceAddress} :
    crc8 (addrBytes a) = 0#8 ↔ crc8 (addrPayload a) = addrByte a 7 :=
  crc8_concat_eq_zero_iff.trans eq_comm

@[simp] theorem length_addrBytes (a : DeviceAddress) : (addrBytes a).length = 8 := rfl

@[simp] theorem getElem_addrBytes (a : DeviceAddress) {j : Nat} (hj : j < (addrBytes a).length) :
    (addrBytes a)[j] = addrByte a j := by
  have hmap : addrBytes a = (List.range 8).map (addrByte a) := rfl
  simp [hmap]

theorem addrByte_xor (a d : DeviceAddress) (j : Nat) :
    addrByte (a ^^^ d) j = addrByte a j ^^^ addrByte d j := BitVec.extractLsb'_xor

/-- Bit `i` of an address is bit `i % 8` of byte `i / 8` (R34). -/
theorem addrByte_twoPow {i j : Nat} (hi : i < 64) :
    addrByte (BitVec.twoPow 64 i) j = if i / 8 = j then BitVec.twoPow 8 (i % 8) else 0#8 := by
  refine BitVec.eq_of_getLsbD_eq fun k hk => ?_
  rw [addrByte, BitVec.getLsbD_extractLsb', BitVec.getLsbD_twoPow, apply_ite (BitVec.getLsbD · k),
    BitVec.getLsbD_twoPow, BitVec.getLsbD_zero]
  simp only [hi, hk, Nat.mod_lt, Nat.ofNat_pos, decide_true, Bool.true_and]
  split
  next hbyte => exact decide_eq_decide.mpr (by omega)
  next hbyte => exact decide_eq_false (by omega)

/-- A flipped bit of an address is a flipped bit of one of its bytes. -/
theorem addrBytes_xor_twoPow (a : DeviceAddress) {i : Nat} (hi : i < 64) :
    addrBytes (a ^^^ BitVec.twoPow 64 i)
      = (addrBytes a).set (i / 8) (addrByte a (i / 8) ^^^ BitVec.twoPow 8 (i % 8)) := by
  refine List.ext_getElem (by simp) fun j _ _ => ?_
  rw [List.getElem_set, getElem_addrBytes, getElem_addrBytes, addrByte_xor, addrByte_twoPow hi]
  split
  next hij => rw [hij]
  next => exact BitVec.xor_zero

/-- A flipped bit changes the CRC of an address's eight bytes, since it changes one of them (R201). -/
theorem crc8_addrBytes_xor_twoPow_ne (a : DeviceAddress) {i : Nat} (hi : i < 64) :
    crc8 (addrBytes (a ^^^ BitVec.twoPow 64 i)) ≠ crc8 (addrBytes a) := by
  rw [addrBytes_xor_twoPow a hi]
  intro h
  have hj : i / 8 < (addrBytes a).length := by rw [length_addrBytes]; omega
  have hsame := eq_getElem_of_crc8_set_eq hj h
  rw [getElem_addrBytes] at hsame
  have hzero : BitVec.twoPow 8 (i % 8) = 0#8 :=
    (BitVec.xor_right_inj _).mp (hsame.trans BitVec.xor_zero.symm)
  have hbit := BitVec.toNat_twoPow_of_lt (Nat.mod_lt i (by decide : 8 > 0))
  rw [hzero] at hbit
  exact (Nat.two_pow_pos (i % 8)).ne hbit

/-- After CRC_ADDR, RES and CRC_OK say whether the address is right (R199). -/
theorem exec_crcAddr_of_beq {s : State} {a : DeviceAddress} {ok : Bool}
    (h : (crc8 (addrPayload a) == addrByte a 7) = ok) :
    ∃ t, exec .crcAddr { s with addrIn := a } = .next t ∧ t.res = bitWord ok ∧ t.status.crcOk = ok := by
  subst h
  exact ⟨_, exec_eq_after .crcAddr _, rfl, rfl⟩

/-- Settles O27: CRC_ADDR tells whether the eight bytes leave 0, and a flipped bit changes what they leave. -/
theorem crcAddrDetectsEverySingleBitFlip : Obligations.CrcAddrDetectsEverySingleBitFlip := by
  intro s a i hright hi
  have hwrong : crc8 (addrPayload (a ^^^ BitVec.twoPow 64 i)) ≠ addrByte (a ^^^ BitVec.twoPow 64 i) 7 := by
    rw [← crc8_addrBytes_eq_zero_iff.ne, ← crc8_addrBytes_eq_zero_iff.mpr hright]
    exact crc8_addrBytes_xor_twoPow_ne a hi
  exact ⟨exec_crcAddr_of_beq (beq_iff_eq.mpr hright),
    exec_crcAddr_of_beq (beq_eq_false_iff_ne.mpr hwrong)⟩

end Sys2Proof.Proofs
end

section
/-! PROOFS. The walk of a search call, position by position: the collision ordinal, the deepest branch-0
ordinal, the bits chosen and the slots made, for any transport that answers given sample pairs (R225). -/

namespace Sys2Proof.Proofs

open Sys2Proof.Machine Sys2Proof.Safety

/-! ### One position -/

/-- The two samples a transport gives at a position (R225). -/
def samplesOf (t : Transport) : Bool × Bool :=
  ((transportRead t).bit, (transportRead (transportRead t).bus).bit)

/-- The transport after the two samples of a position. -/
def busSampled (t : Transport) : Transport := (transportRead (transportRead t).bus).bus

/-- The state after the two samples of a position. -/
def sampled (s : State) : State :=
  { s with
    bus := busSampled s.bus
    trace := .busRead (samplesOf s.bus).2 :: .busRead (samplesOf s.bus).1 :: s.trace }

theorem busReadBit_busReadBit (s : State) :
    s.busReadBit.2.busReadBit = ((samplesOf s.bus).2, sampled s) := rfl

/-- The deepest ordinal below `k` at which VISITED takes branch 0 (R222, R225). -/
def deepestZero (v : BitVec 32) : Nat → Option Nat
  | 0 => none
  | k + 1 => if v.getLsbD k then deepestZero v k else some k

theorem deepestZero_eq_none_iff {v : BitVec 32} {c : Nat} :
    deepestZero v c = none ↔ ∀ k < c, v.getLsbD k = true := by
  induction c with
  | zero => simp [deepestZero]
  | succ c ih =>
    simp only [deepestZero, Nat.forall_lt_succ_right]
    split
    next hbit => simp [ih, hbit]
    next hbit => simp [hbit]

theorem deepestZero_eq_some_of {v : BitVec 32} {m c : Nat} (hm : m < c) (hzero : v.getLsbD m = false)
    (hones : ∀ k, m < k → k < c → v.getLsbD k = true) : deepestZero v c = some m := by
  induction c with
  | zero => omega
  | succ c ih =>
    rcases Nat.lt_succ_iff_lt_or_eq.mp hm with hlt | rfl
    · rw [deepestZero, if_pos (hones c hlt (Nat.lt_succ_self c))]
      exact ih hlt fun k hk hc => hones k hk (Nat.lt_succ_of_lt hc)
    · simp [deepestZero, hzero]

theorem lt_of_deepestZero_eq_some {v : BitVec 32} {m c : Nat} (h : deepestZero v c = some m) :
    m < c := by
  induction c with
  | zero => exact absurd h nofun
  | succ c ih =>
    rw [deepestZero] at h
    split at h
    · exact Nat.lt_succ_of_lt (ih h)
    · exact Option.some.inj h ▸ Nat.lt_succ_self c

/-- The code of a conflict in which both samples are `d` (R226, R227). -/
def conflictCode (d : Bool) : ErrCode := if d then .busConflict1 else .busConflict0

/-- Equal samples that cannot be taken as a collision end the walk (R226, R227). -/
theorem walk_of_conflict {m p k : Nat} {last0 : Option Nat} {s : State} {d : Bool}
    (hsamples : samplesOf s.bus = (d, d)) (hfull : d = false → s.cfg.searchCap ≤ k) :
    walk (m + 1) p k last0 s = (.conflict (conflictCode d) p, sampled s) := by
  have hread : s.busReadBit.1 = d := congrArg Prod.fst hsamples
  rw [walk, busReadBit_busReadBit, hread, hsamples]
  cases d with
  | true => rfl
  | false => simp [hfull rfl, conflictCode]

/-- A collision within the capacity takes the branch VISITED names (R227). -/
theorem walk_of_collision {m p k : Nat} {s : State} (hsamples : samplesOf s.bus = (false, false))
    (hroom : k < s.cfg.searchCap) :
    walk (m + 1) p k (deepestZero s.search.visited k) s
      = walk m (p + 1) (k + 1) (deepestZero s.search.visited (k + 1))
          (chooseBit p (s.search.visited.getLsbD k) (sampled s)) := by
  have hread : s.busReadBit.1 = false := congrArg Prod.fst hsamples
  rw [walk, busReadBit_busReadBit, hread, hsamples, deepestZero]
  cases hbranch : s.search.visited.getLsbD k <;> simp [Nat.not_le.mpr hroom]

/-- Different samples force the bit (R225). -/
theorem walk_of_forced {m p k : Nat} {last0 : Option Nat} {s : State} {a b : Bool}
    (hsamples : samplesOf s.bus = (a, b)) (hne : a ≠ b) :
    walk (m + 1) p k last0 s = walk m (p + 1) k last0 (chooseBit p a (sampled s)) := by
  have hread : s.busReadBit.1 = a := congrArg Prod.fst hsamples
  rw [walk, busReadBit_busReadBit, hread, hsamples]
  cases a <;> cases b <;> simp_all

/-- A walk that meets a conflict ends its call with that conflict (R226, R227). -/
theorem searchWalk_of_conflict {s t : State} {code : ErrCode} {p : Nat}
    (h : commandedWalk s = (.conflict code p, t)) : searchWalk s = failAt code p t := by
  rw [commandedWalk] at h
  rw [searchWalk, h]

/-- A complete walk is followed by the CRC check (R228). -/
theorem searchWalk_of_complete {s t : State} {last0 : Option Nat}
    (h : commandedWalk s = (.complete last0, t)) : searchWalk s = finishWalk last0 t := by
  rw [commandedWalk] at h
  rw [searchWalk, h]

/-! ### The collision ordinals of a list of sample pairs -/

@[simp] theorem collisionsBefore_zero (pairs : List (Bool × Bool)) : collisionsBefore pairs 0 = 0 := rfl

theorem collisionsBefore_length (pairs : List (Bool × Bool)) :
    collisionsBefore pairs pairs.length = pairs.count (false, false) := by
  rw [collisionsBefore, List.take_length]

theorem collisionsBefore_succ {pairs : List (Bool × Bool)} {p : Nat} {q : Bool × Bool}
    (h : pairs[p]? = some q) :
    collisionsBefore pairs (p + 1)
      = collisionsBefore pairs p + if q = (false, false) then 1 else 0 := by
  simp [collisionsBefore, List.take_add_one, h, List.count_cons]

theorem collisionsBefore_mono (pairs : List (Bool × Bool)) {p q : Nat} (h : p ≤ q) :
    collisionsBefore pairs p ≤ collisionsBefore pairs q :=
  (List.take_sublist_take_left h).count_le _

theorem collisionsBefore_le_count (pairs : List (Bool × Bool)) (p : Nat) :
    collisionsBefore pairs p ≤ pairs.count (false, false) :=
  (List.take_sublist p pairs).count_le _

/-- A collision has an ordinal below the number of collisions. -/
theorem collisionsBefore_lt {pairs : List (Bool × Bool)} {p q : Nat} (hpq : p < q)
    (h : pairs[p]? = some (false, false)) : collisionsBefore pairs p < collisionsBefore pairs q := by
  have hsucc := collisionsBefore_succ h
  have hmono := collisionsBefore_mono pairs (show p + 1 ≤ q from hpq)
  rw [if_pos rfl] at hsucc
  omega

/-- Every ordinal is that of a collision. -/
theorem exists_collision_of_ordinal {pairs : List (Bool × Bool)} {k q : Nat}
    (hk : k < collisionsBefore pairs q) :
    ∃ p < q, pairs[p]? = some (false, false) ∧ collisionsBefore pairs p = k := by
  induction q with
  | zero => exact absurd hk (Nat.not_lt_zero k)
  | succ q ih =>
    rcases Nat.lt_or_ge k (collisionsBefore pairs q) with hlt | hge
    · obtain ⟨p, hp, hpair⟩ := ih hlt
      exact ⟨p, Nat.lt_succ_of_lt hp, hpair⟩
    · cases hpair : pairs[q]? with
      | none =>
        have hstay : pairs.take (q + 1) = pairs.take q := by simp [List.take_add_one, hpair]
        rw [collisionsBefore, hstay] at hk
        exact absurd hk (Nat.not_lt.mpr hge)
      | some r =>
        rw [collisionsBefore_succ hpair] at hk
        split at hk
        next hr => exact ⟨q, Nat.lt_succ_self q, hr ▸ hpair, by omega⟩
        next => omega

/-! ### What the positions passed leave -/

/-- The bit chosen at position `p` of a list of sample pairs (R225, R227). -/
def chosenAt (v : BitVec 32) (pairs : List (Bool × Bool)) (p : Nat) : Bool :=
  chosenBit v pairs p (pairs.getD p (false, false)).1 (pairs.getD p (false, false)).2

theorem chosenAt_eq {v : BitVec 32} {pairs : List (Bool × Bool)} {p : Nat} {a b : Bool}
    (h : pairs[p]? = some (a, b)) : chosenAt v pairs p = chosenBit v pairs p a b := by
  simp [chosenAt, h]

/-- ADDR_OUT after the positions below `p`: the bits chosen there, 0 above (R224, R225). -/
def chosenBits (v : BitVec 32) (pairs : List (Bool × Bool)) : Nat → DeviceAddress
  | 0 => 0#64
  | p + 1 => setBit (chosenBits v pairs p) p (chosenAt v pairs p)

theorem getLsbD_chosenBits (v : BitVec 32) (pairs : List (Bool × Bool)) (p : Nat) {j : Nat}
    (hj : j < 64) : (chosenBits v pairs p).getLsbD j = (decide (j < p) && chosenAt v pairs j) := by
  induction p with
  | zero => simp [chosenBits]
  | succ p ih =>
    rw [chosenBits, getLsbD_setBit _ _ _ _ hj, ih]
    split
    next h => simp [h]
    next h => rw [decide_eq_decide.mpr (show j < p ↔ j < p + 1 by omega)]

/-- The three slots of position `p`: two samples and the chosen bit written back (R225). -/
def positionSlots (v : BitVec 32) (pairs : List (Bool × Bool)) (p : Nat) : List Event :=
  [.busRead (pairs.getD p (false, false)).1, .busRead (pairs.getD p (false, false)).2,
   .busWrite (chosenAt v pairs p)]

/-- The state of a call at position `p` of its walk: ADDR_OUT, the transport and the record of the slots
have moved, the last by a bus reset, the command byte and the positions passed (R224, R225). -/
def atPosition (s : State) (pairs : List (Bool × Bool)) (bus : Nat → Transport) (p : Nat) : State :=
  { s with
    addrOut := chosenBits s.search.visited pairs p
    bus := bus p
    trace := ((List.range p).flatMap (positionSlots s.search.visited pairs)).reverse
      ++ ((List.range 8).map (fun i => Event.busWrite (s.cfg.searchRomCmd.getLsbD i))).reverse
      ++ .busReset true :: s.trace }

@[simp] theorem atPosition_addrOut (s : State) (pairs : List (Bool × Bool)) (bus : Nat → Transport)
    (p : Nat) : (atPosition s pairs bus p).addrOut = chosenBits s.search.visited pairs p := rfl

theorem chooseBit_atPosition (s : State) (pairs : List (Bool × Bool)) (bus : Nat → Transport) {p : Nat}
    (hsamples : samplesOf (bus p) = pairs.getD p (false, false))
    (hwrite : transportWrite (busSampled (bus p)) (chosenAt s.search.visited pairs p) = bus (p + 1)) :
    chooseBit p (chosenAt s.search.visited pairs p) (sampled (atPosition s pairs bus p))
      = atPosition s pairs bus (p + 1) := by
  simp [chooseBit, sampled, atPosition, State.busWriteBit, hwrite, hsamples, chosenBits, positionSlots,
    List.range_succ]

/-! ### A walk along given sample pairs -/

/-- The state of a call after its bus reset (R224). -/
def answered (s : State) : State := (State.busReset { s with addrOut := 0#64 }).2

/-- A call in `s` gets an answer to its bus reset, and its walk meets `pairs` with the transport `bus p`
before position `p`: no (1, 1), and no collision beyond the capacity (R224 to R227). -/
structure Meets (s : State) (pairs : List (Bool × Bool)) (bus : Nat → Transport) : Prop where
  present : (transportReset s.bus).bit = true
  start : (List.range 8).foldl (fun t i => transportWrite t (s.cfg.searchRomCmd.getLsbD i))
    (transportReset s.bus).bus = bus 0
  noConflict : (true, true) ∉ pairs
  capacity : pairs.count (false, false) ≤ s.cfg.searchCap
  samples : ∀ p q, pairs[p]? = some q → samplesOf (bus p) = q
  write : ∀ p < pairs.length,
    transportWrite (busSampled (bus p)) (chosenAt s.search.visited pairs p) = bus (p + 1)

section
variable {s : State} {pairs : List (Bool × Bool)} {bus : Nat → Transport}

/-- One position of a walk: on to the next one. -/
theorem Meets.walk_succ (h : Meets s pairs bus) (m : Nat) {p : Nat} (hp : p < pairs.length) :
    walk (m + 1) p (collisionsBefore pairs p)
        (deepestZero s.search.visited (collisionsBefore pairs p)) (atPosition s pairs bus p)
      = walk m (p + 1) (collisionsBefore pairs (p + 1))
          (deepestZero s.search.visited (collisionsBefore pairs (p + 1)))
          (atPosition s pairs bus (p + 1)) := by
  obtain ⟨⟨a, b⟩, hpair⟩ : ∃ q, pairs[p]? = some q := ⟨_, List.getElem?_eq_getElem hp⟩
  have hsamples : samplesOf (atPosition s pairs bus p).bus = (a, b) := h.samples p _ hpair
  have hnext := chooseBit_atPosition s pairs bus
    (by rw [h.samples p _ hpair]; simp [hpair]) (h.write p hp)
  rw [collisionsBefore_succ hpair, ← hnext, chosenAt_eq hpair, chosenBit]
  by_cases hab : a = b
  · cases a with
    | true =>
      subst hab
      exact absurd (List.mem_of_getElem? hpair) h.noConflict
    | false =>
      subst hab
      have hroom : collisionsBefore pairs p < s.cfg.searchCap :=
        (collisionsBefore_lt hp hpair).trans_le
          ((collisionsBefore_le_count pairs _).trans h.capacity)
      simp only [and_self, if_true]
      exact walk_of_collision hsamples hroom
  · have hforced : ¬ (a = false ∧ b = false) := fun ⟨ha, hb⟩ => hab (ha.trans hb.symm)
    rw [if_neg hforced, if_neg (by simpa using hforced)]
    exact walk_of_forced hsamples hab

/-- The walk from its start is the walk from any position it reaches. -/
theorem Meets.walk_eq (h : Meets s pairs bus) {p : Nat} (hp : p ≤ pairs.length) (m : Nat) :
    walk (m + p) 0 0 none (atPosition s pairs bus 0)
      = walk m p (collisionsBefore pairs p)
          (deepestZero s.search.visited (collisionsBefore pairs p)) (atPosition s pairs bus p) := by
  induction p generalizing m with
  | zero => rfl
  | succ p ih =>
    rw [show m + (p + 1) = m + 1 + p by omega, ih (by omega), h.walk_succ m hp]

/-- A call on a live session that a device answers is its walk (R224). -/
theorem Meets.searchNext_eq (h : Meets s pairs bus) (hlive : sessionLive s.search = true) :
    searchNext s = searchWalk (answered s) := by
  have hpresent : (State.busReset { s with addrOut := 0#64 }).1 = true := h.present
  rw [searchNext, if_pos hlive, searchLive_eq, if_pos hpresent]
  rfl

theorem Meets.busWriteByte_answered (h : Meets s pairs bus) :
    (answered s).busWriteByte s.cfg.searchRomCmd = atPosition s pairs bus 0 := by
  rw [busWriteByte_eq, atPosition, ← h.start, answered, busReset_eq]
  simp only [h.present]
  rfl

theorem Meets.commandedWalk_eq (h : Meets s pairs bus) {p m : Nat} (hp : p ≤ pairs.length)
    (hm : m + p = 64) :
    commandedWalk (answered s)
      = walk m p (collisionsBefore pairs p)
          (deepestZero s.search.visited (collisionsBefore pairs p)) (atPosition s pairs bus p) := by
  rw [← h.walk_eq hp m, hm, ← h.busWriteByte_answered]
  rfl

/-- A call whose walk meets 64 pairs ends with the CRC check (R228). -/
theorem Meets.searchNext_complete (h : Meets s pairs bus) (hlive : sessionLive s.search = true)
    (hlength : pairs.length = 64) :
    searchNext s = finishWalk (deepestZero s.search.visited (pairs.count (false, false)))
      (atPosition s pairs bus 64) := by
  have hall : collisionsBefore pairs 64 = pairs.count (false, false) :=
    hlength ▸ collisionsBefore_length pairs
  have hwalk := h.commandedWalk_eq (m := 0) hlength.ge rfl
  rw [hall] at hwalk
  exact (h.searchNext_eq hlive).trans (searchWalk_of_complete hwalk)

/-- A call whose walk meets equal samples it cannot take after `pairs` ends there (R226, R227). -/
theorem Meets.searchNext_conflict (h : Meets s pairs bus) (hlive : sessionLive s.search = true)
    (hlength : pairs.length < 64) {d : Bool} (hsamples : samplesOf (bus pairs.length) = (d, d))
    (hfull : d = false → s.cfg.searchCap ≤ pairs.count (false, false)) :
    searchNext s
      = failAt (conflictCode d) pairs.length (sampled (atPosition s pairs bus pairs.length)) := by
  have hat : samplesOf (atPosition s pairs bus pairs.length).bus = (d, d) := hsamples
  have hwalk := h.commandedWalk_eq (m := 63 - pairs.length + 1) le_rfl (by omega)
  rw [collisionsBefore_length, walk_of_conflict hat hfull] at hwalk
  exact (h.searchNext_eq hlive).trans (searchWalk_of_conflict hwalk)

end

end Sys2Proof.Proofs
end

section
/-! PROOFS. One call of the search: no walk, a complete walk, and a walk cut short by a conflict, for a
transport that answers from a list (R221 to R229). -/

namespace Sys2Proof.Proofs

open Sys2Proof.Machine Sys2Proof.Safety

/-! ### Calls without a walk -/

/-- Settles O28, from the state `after` names. -/
theorem srchStartBeginsALiveSession : Obligations.SrchStartBeginsALiveSession := fun s =>
  (exec_eq_after .srchStart s).trans (congrArg _ (after_srchStart s))

/-- A call on a session that is not live only writes FOUND and RES (R223). -/
theorem searchNext_of_dead {s : State} (h : s.search.errCode ≠ .ok ∨ s.search.exhausted = true) :
    searchNext s = { s with res := 0#32, status := { s.status with found := false } } := by
  have hdead : ¬ sessionLive s.search = true := by
    rw [sessionLive_iff]
    rintro ⟨hok, hmore⟩
    rcases h with herr | hdone
    · exact herr hok
    · exact Bool.false_ne_true (hmore.symm.trans hdone)
  rw [searchNext, if_neg hdead, searchOutcome_eq]
  rfl

/-- Settles O29: the guard of SRCH_NEXT fails on both kinds of dead session. -/
theorem srchNextOnADeadSessionDoesNothing : Obligations.SrchNextOnADeadSessionDoesNothing := fun s h =>
  (exec_eq_after .srchNext s).trans (congrArg _ (searchNext_of_dead h))

/-- Settles O30: after an unanswered bus reset the call fails before any walk. -/
theorem srchNextWithoutPresenceFails : Obligations.SrchNextWithoutPresenceFails := by
  intro s hok hmore habsent
  have hlive : sessionLive s.search = true := (sessionLive_iff _).mpr ⟨hok, hmore⟩
  have habsent' : ¬ (State.busReset { s with addrOut := 0#64 }).1 = true := ne_true_of_eq_false habsent
  rw [exec_eq_after, after_srchNext, searchNext, if_pos hlive, searchLive_eq, if_neg habsent',
    failPlain_eq, busReset_eq]
  simp only [habsent]

/-! ### The transport that answers from a list -/

theorem samplesOf_oracle (a b : Bool) (rest : List Bool) (n : Nat) :
    samplesOf (.oracle (a :: b :: rest) n) = (a, b) := rfl

theorem busSampled_oracle (a b : Bool) (rest : List Bool) (n : Nat) :
    busSampled (.oracle (a :: b :: rest) n) = .oracle rest (n + 2) := rfl

/-- The transport before position `p` of a walk whose samples are listed. -/
def listedBus (pairs : List (Bool × Bool)) (rest : List Bool) (n p : Nat) : Transport :=
  .oracle (answersOf (pairs.drop p) ++ rest) (n + 1 + 2 * p)

theorem answersOf_drop {pairs : List (Bool × Bool)} {p : Nat} {q : Bool × Bool}
    (h : pairs[p]? = some q) :
    answersOf (pairs.drop p) = q.1 :: q.2 :: answersOf (pairs.drop (p + 1)) := by
  obtain ⟨hp, hq⟩ := List.getElem?_eq_some_iff.mp h
  rw [List.drop_eq_getElem_cons hp, hq]
  rfl

theorem listedBus_length (pairs : List (Bool × Bool)) (rest : List Bool) (n : Nat) :
    listedBus pairs rest n pairs.length = .oracle rest (n + 1 + 2 * pairs.length) := by
  simp [listedBus, answersOf]

/-- A list of answers that begins with a presence answer and sample pairs is met by the walk. -/
theorem meets_listed {s : State} {pairs : List (Bool × Bool)} {rest : List Bool} {n : Nat}
    (hbus : s.bus = .oracle (true :: answersOf pairs ++ rest) n)
    (hconflict : (true, true) ∉ pairs) (hcapacity : pairs.count (false, false) ≤ s.cfg.searchCap) :
    Meets s pairs (listedBus pairs rest n) where
  present := by rw [hbus]; rfl
  start := by rw [hbus]; rfl
  noConflict := hconflict
  capacity := hcapacity
  samples p q hq := by
    rw [listedBus, answersOf_drop hq]
    rfl
  write p hp := by
    rw [listedBus, answersOf_drop (List.getElem?_eq_getElem hp)]
    exact congrArg (Transport.oracle _) (by omega)

/-- The address bits a walk stores are the chosen bits (R225, R227). -/
theorem getLsbD_chosenBits_of_pair {v : BitVec 32} {pairs : List (Bool × Bool)} {p q : Nat} {a b : Bool}
    (hpair : pairs[p]? = some (a, b)) (hpq : p < q) (hp : p < 64) :
    (chosenBits v pairs q).getLsbD p = chosenBit v pairs p a b := by
  rw [getLsbD_chosenBits _ _ _ hp, decide_eq_true hpq, Bool.true_and, chosenAt_eq hpair]

/-! ### A walk cut short -/

theorem conflictRecord_toNat {p : Nat} (hp : p < 64) :
    (BitVec.ofNat 3 (p / 8)).toNat = p / 8 ∧ (BitVec.twoPow 8 (p % 8)).toNat = 2 ^ (p % 8) :=
  ⟨by rw [BitVec.toNat_ofNat]; omega, BitVec.toNat_twoPow_of_lt (Nat.mod_lt p (by decide))⟩

/-- A call cut short after `pairs` by two samples `d` that it cannot take: the record of the position, the
address bits below it, and no bit of its own (R226, R227). -/
theorem exec_srchNext_of_conflict {s : State} {pairs : List (Bool × Bool)} {rest : List Bool} {n : Nat}
    {d : Bool} (hlive : sessionLive s.search = true)
    (hbus : s.bus = .oracle (true :: answersOf pairs ++ d :: d :: rest) n)
    (hlength : pairs.length < 64) (hconflict : (true, true) ∉ pairs)
    (hcapacity : pairs.count (false, false) ≤ s.cfg.searchCap)
    (hfull : d = false → s.cfg.searchCap ≤ pairs.count (false, false)) :
    ∃ t, exec .srchNext s = .next t
      ∧ t = { s with addrOut := t.addrOut, res := 0#32,
                     status := { s.status with found := false },
                     search := { s.search with errCode := conflictCode d,
                                               errBytePos := t.search.errBytePos,
                                               errBitMask := t.search.errBitMask },
                     bus := .oracle rest (n + 2 * pairs.length + 3), trace := t.trace }
      ∧ t.search.errBytePos.toNat = pairs.length / 8
      ∧ t.search.errBitMask.toNat = 2 ^ (pairs.length % 8)
      ∧ t.trace.take 2 = [.busRead d, .busRead d]
      ∧ (∀ p a b, pairs[p]? = some (a, b) →
          t.addrOut.getLsbD p = chosenBit s.search.visited pairs p a b)
      ∧ (∀ p, pairs.length ≤ p → t.addrOut.getLsbD p = false) := by
  have hmeets := meets_listed hbus hconflict hcapacity
  have hsamples : samplesOf (listedBus pairs (d :: d :: rest) n pairs.length) = (d, d) := by
    rw [listedBus_length, samplesOf_oracle]
  have hcount : n + 1 + 2 * pairs.length + 2 = n + 2 * pairs.length + 3 := by omega
  obtain ⟨hbyte, hmask⟩ := conflictRecord_toNat hlength
  refine ⟨_, exec_eq_after .srchNext s, ?_⟩
  rw [after_srchNext, hmeets.searchNext_conflict hlive hlength hsamples hfull, failAt_eq, sampled,
    atPosition, listedBus_length, samplesOf_oracle, busSampled_oracle, hcount]
  refine ⟨rfl, hbyte, hmask, rfl, fun p a b hpair => ?_, fun p hp => ?_⟩
  · have hp : p < pairs.length := (List.getElem?_eq_some_iff.mp hpair).1
    exact getLsbD_chosenBits_of_pair hpair hp (hp.trans hlength)
  · rcases Nat.lt_or_ge p 64 with hlt | hge
    · exact (getLsbD_chosenBits _ _ _ hlt).trans (by simp [hp])
    · exact BitVec.getLsbD_of_ge _ _ hge

/-- Settles O32: two samples 1 are a conflict at any collision ordinal. -/
theorem bothSamplesOneAbortsTheSession : Obligations.BothSamplesOneAbortsTheSession :=
  fun _ _ _ _ _ hok hmore hbus hlength hconflict hcapacity =>
    exec_srchNext_of_conflict (d := true) ((sessionLive_iff _).mpr ⟨hok, hmore⟩) hbus hlength hconflict
      hcapacity nofun

/-- Settles O33: two samples 0 are a conflict when every ordinal of VISITED is used up. -/
theorem collisionBeyondCapacityAbortsTheSession : Obligations.CollisionBeyondCapacityAbortsTheSession :=
  fun _ _ _ _ _ hok hmore hbus hlength hconflict hcount =>
    exec_srchNext_of_conflict (d := false) ((sessionLive_iff _).mpr ⟨hok, hmore⟩) hbus hlength hconflict
      hcount.le fun _ => hcount.ge

/-! ### The VISITED update -/

/-- VISITED keeps its bits below the deepest branch-0 ordinal and sets that one (R229). -/
theorem toNat_nextVisited_some (v : BitVec 32) {m : Nat} (hm : m < 32) :
    (nextVisited v (some m)).toNat = v.toNat % 2 ^ m + 2 ^ m := by
  have hbit : (BitVec.twoPow 32 m).toNat = 2 ^ m := BitVec.toNat_twoPow_of_lt hm
  have hmask : (BitVec.twoPow 32 m - 1#32).toNat = 2 ^ m - 1 := by
    rw [BitVec.toNat_sub_of_le (by rw [BitVec.le_def, hbit]; exact Nat.two_pow_pos m), hbit]
    rfl
  have hor := Nat.two_pow_add_eq_or_of_lt (Nat.mod_lt v.toNat (Nat.two_pow_pos m)) 1
  rw [nextVisited, BitVec.toNat_or, BitVec.toNat_and, hbit, hmask, Nat.and_two_pow_sub_one_eq_mod,
    Nat.lor_comm, Nat.add_comm]
  simpa using hor.symm

theorem getLsbD_nextVisited_some (v : BitVec 32) {m : Nat} (hm : m < 32) (j : Nat) :
    (nextVisited v (some m)).getLsbD j = if j < m then v.getLsbD j else decide (j = m) := by
  have hmod : v.toNat % 2 ^ m < 2 ^ m := Nat.mod_lt _ (Nat.two_pow_pos m)
  rw [← BitVec.testBit_toNat, toNat_nextVisited_some v hm, Nat.add_comm]
  rcases lt_trichotomy j m with hlt | rfl | hgt
  · rw [Nat.testBit_two_pow_add_gt hlt, Nat.testBit_mod_two_pow, if_pos hlt, decide_eq_true hlt,
      Bool.true_and, BitVec.testBit_toNat]
  · simp [Nat.testBit_two_pow_add_eq, Nat.testBit_lt_two_pow hmod]
  · have hsmall : 2 ^ m + v.toNat % 2 ^ m < 2 ^ j :=
      calc 2 ^ m + v.toNat % 2 ^ m
        _ < 2 ^ (m + 1) := by rw [Nat.pow_succ]; omega
        _ ≤ 2 ^ j := Nat.pow_le_pow_right (by decide) hgt
    rw [Nat.testBit_lt_two_pow hsmall, if_neg (Nat.not_lt.mpr hgt.le), decide_eq_false hgt.ne']

theorem nextVisited_some_ne_zero (v : BitVec 32) {m : Nat} (hm : m < 32) :
    nextVisited v (some m) ≠ 0#32 := by
  intro hzero
  have hbit := getLsbD_nextVisited_some v hm m
  rw [hzero] at hbit
  simp at hbit

/-! ### A complete walk -/

/-- The outcome of a call whose CRC is wrong (R228). -/
theorem finishWalk_of_mismatch {last0 : Option Nat} {s : State}
    (h : crc8 (addrPayload s.addrOut) ≠ addrByte s.addrOut 7) :
    finishWalk last0 s = failPlain .crcMismatch s :=
  (finishWalk_cases last0 s).elim And.right fun hmatch => absurd hmatch.1 h

/-- The outcome of a call whose CRC is right (R229). -/
theorem finishWalk_of_match {last0 : Option Nat} {s : State}
    (h : crc8 (addrPayload s.addrOut) = addrByte s.addrOut 7) :
    finishWalk last0 s = searchSuccess last0 s :=
  (finishWalk_cases last0 s).elim (fun hmismatch => absurd h hmismatch.1) And.right

/-- The end of a walk leaves ADDR_OUT, the transport and the record of the slots (R228, R229). -/
theorem finishWalk_frame (last0 : Option Nat) (s : State) :
    finishWalk last0 s = { s with
      res := (finishWalk last0 s).res
      status := { s.status with found := (finishWalk last0 s).status.found }
      search := (finishWalk last0 s).search } := by
  rcases finishWalk_cases last0 s with ⟨-, h⟩ | ⟨-, h⟩ <;> rw [h] <;> rfl

/-- What a right CRC leaves in the SearchState: EXHAUSTED, and the two forms of VISITED (R229). -/
theorem visited_of_searchSuccess (s : State) {c : Nat} (hc : c ≤ 32) :
    ((searchSuccess (deepestZero s.search.visited c) s).search.exhausted = true
      ↔ (searchSuccess (deepestZero s.search.visited c) s).search.visited = 0#32)
    ∧ ((∀ k < c, s.search.visited.getLsbD k = true) →
        (searchSuccess (deepestZero s.search.visited c) s).search.visited = 0#32)
    ∧ ∀ m < c, s.search.visited.getLsbD m = false →
        (∀ k, m < k → k < c → s.search.visited.getLsbD k = true) →
          (searchSuccess (deepestZero s.search.visited c) s).search.visited.toNat
            = s.search.visited.toNat % 2 ^ m + 2 ^ m := by
  rw [searchSuccess_eq]
  refine ⟨beq_iff_eq, fun hones => ?_, fun m hm hzero hones => ?_⟩
  · rw [deepestZero_eq_none_iff.mpr hones]
    rfl
  · rw [deepestZero_eq_some_of hm hzero hones]
    exact toNat_nextVisited_some _ (hm.trans_le hc)

/-- The slots of a complete walk, with the bits written read off the address (R225). -/
theorem flatMap_positionSlots_eq (v : BitVec 32) (pairs : List (Bool × Bool)) :
    (List.range 64).flatMap (positionSlots v pairs)
      = (List.range 64).flatMap (fun p =>
          [.busRead (pairs.getD p (false, false)).1, .busRead (pairs.getD p (false, false)).2,
           .busWrite ((chosenBits v pairs 64).getLsbD p)]) := by
  refine List.flatMap_congr fun p hp => ?_
  have hlt := List.mem_range.mp hp
  rw [getLsbD_chosenBits _ _ _ hlt, decide_eq_true hlt, Bool.true_and, positionSlots]

/-- Settles O31: the walk passes all 64 positions, then the CRC of the stored bits decides. -/
theorem srchNextWalkResolvesAnAddress : Obligations.SrchNextWalkResolvesAnAddress := by
  intro s pairs rest n hwf hok hmore hbus hlength hconflict hcapacity
  have hmeets := meets_listed hbus hconflict hcapacity
  have hlive : sessionLive s.search = true := (sessionLive_iff _).mpr ⟨hok, hmore⟩
  have hend : listedBus pairs rest n 64 = .oracle rest (n + 129) := by
    rw [← hlength, listedBus_length, hlength]
  have hnext : after .srchNext s = finishWalk (deepestZero s.search.visited (pairs.count (false, false)))
      (atPosition s pairs (listedBus pairs rest n) 64) := hmeets.searchNext_complete hlive hlength
  have hframe := finishWalk_frame (deepestZero s.search.visited (pairs.count (false, false)))
    (atPosition s pairs (listedBus pairs rest n) 64)
  rw [← hnext] at hframe
  have haddr : (after .srchNext s).addrOut = (atPosition s pairs (listedBus pairs rest n) 64).addrOut := by
    rw [hframe]
  have htrace : (after .srchNext s).trace = (atPosition s pairs (listedBus pairs rest n) 64).trace := by
    rw [hframe]
  refine ⟨after .srchNext s, exec_eq_after .srchNext s, ?_, fun p a b hpair => ?_, ?_, fun hcrc => ?_,
    fun hcrc => ?_⟩
  · rw [hframe]
    simp only [atPosition, hend]
  · have hp : p < 64 := hlength ▸ (List.getElem?_eq_some_iff.mp hpair).1
    rw [haddr, atPosition_addrOut]
    exact getLsbD_chosenBits_of_pair hpair hp hp
  · rw [haddr, htrace, atPosition_addrOut, ← flatMap_positionSlots_eq]
    rfl
  · rw [haddr] at hcrc
    rw [hnext, finishWalk_of_mismatch hcrc]
    exact ⟨rfl, rfl, rfl⟩
  · rw [haddr] at hcrc
    have hc : pairs.count (false, false) ≤ 32 := hcapacity.trans (wf_searchCap_le hwf)
    rw [hnext, finishWalk_of_match hcrc]
    exact ⟨rfl, rfl, rfl,
      visited_of_searchSuccess (atPosition s pairs (listedBus pairs rest n) 64) hc⟩

end Sys2Proof.Proofs
end

section
/-! PROOFS. The ideal bus: the order of the addresses, the walk towards one device and its collisions with
the others (R220, R230). -/

namespace Sys2Proof.Proofs

open Sys2Proof.Machine Sys2Proof.Safety

/-! ### The order of the addresses -/

/-- `x` comes before `y` by bit `q`: they agree below it, and `x` takes branch 0. -/
def SplitsAt (q : Nat) (x y : DeviceAddress) : Prop :=
  (∀ i < q, x.getLsbD i = y.getLsbD i) ∧ x.getLsbD q = false ∧ y.getLsbD q = true

theorem lt_of_getLsbD_eq_true {q : Nat} {x : DeviceAddress} (h : x.getLsbD q = true) : q < 64 := by
  by_contra hge
  exact Bool.false_ne_true ((BitVec.getLsbD_of_ge x q (Nat.not_lt.mp hge)).symm.trans h)

theorem SplitsAt.lt {q : Nat} {x y : DeviceAddress} (h : SplitsAt q x y) : q < 64 :=
  lt_of_getLsbD_eq_true h.2.2

/-- The number whose most significant bit is address bit 0 compares by the first bit that differs. -/
theorem SplitsAt.reverse_lt {q : Nat} {x y : DeviceAddress} (h : SplitsAt q x y) :
    x.reverse < y.reverse := by
  have hq := h.lt
  obtain ⟨hsame, hx, hy⟩ := h
  have hbit (a : DeviceAddress) (i : Nat) :
      a.reverse.toNat.testBit i = (decide (i < 64) && a.getLsbD (63 - i)) := by
    rw [BitVec.testBit_toNat, BitVec.getLsbD_reverse, BitVec.getMsbD]
  have hlast : 63 - (63 - q) = q := by omega
  refine BitVec.lt_def.mpr (Nat.lt_of_testBit (63 - q) ?_ ?_ fun j hj => ?_)
  · rw [hbit, hlast, hx, Bool.and_false]
  · rw [hbit, hlast, hy, Bool.and_true]
    exact decide_eq_true (by omega)
  · rcases Nat.lt_or_ge j 64 with hlt | hge
    · rw [hbit, hbit, hsame (63 - j) (by omega)]
    · rw [hbit, hbit, decide_eq_false (Nat.not_lt.mpr hge)]
      rfl

/-- Two different addresses split at the first bit that differs. -/
theorem exists_splitsAt_of_ne {x y : DeviceAddress} (h : x ≠ y) :
    ∃ q, SplitsAt q x y ∨ SplitsAt q y x := by
  have hdiff : ∃ q, x.getLsbD q ≠ y.getLsbD q := by
    by_contra hall
    exact h (BitVec.eq_of_getLsbD_eq fun i _ => not_not.mp (not_exists.mp hall i))
  have hsame (i : Nat) (hi : i < Nat.find hdiff) : x.getLsbD i = y.getLsbD i :=
    not_not.mp (Nat.find_min hdiff hi)
  have hne := Nat.find_spec hdiff
  refine ⟨Nat.find hdiff, ?_⟩
  cases hx : x.getLsbD (Nat.find hdiff) <;> cases hy : y.getLsbD (Nat.find hdiff)
  · exact absurd (hx.trans hy.symm) hne
  · exact .inl ⟨hsame, hx, hy⟩
  · exact .inr ⟨fun i hi => (hsame i hi).symm, hy, hx⟩
  · exact absurd (hx.trans hy.symm) hne

theorem reverse_lt_iff {x y : DeviceAddress} : x.reverse < y.reverse ↔ ∃ q, SplitsAt q x y := by
  refine ⟨fun h => ?_, fun ⟨q, hq⟩ => hq.reverse_lt⟩
  have hne : x ≠ y := by
    rintro rfl
    exact BitVec.lt_irrefl _ h
  obtain ⟨q, hq | hq⟩ := exists_splitsAt_of_ne hne
  · exact ⟨q, hq⟩
  · exact absurd hq.reverse_lt (BitVec.lt_asymm h)

theorem eq_or_reverse_lt_or_gt (x y : DeviceAddress) :
    x = y ∨ x.reverse < y.reverse ∨ y.reverse < x.reverse := by
  by_cases h : x = y
  · exact .inl h
  · obtain ⟨q, hq⟩ := exists_splitsAt_of_ne h
    exact .inr (hq.imp SplitsAt.reverse_lt SplitsAt.reverse_lt)

/-! ### The walk towards one device -/

/-- The devices still active before position `p` of the walk to `d` (R220). -/
def agreeing (devices : List DeviceAddress) (d : DeviceAddress) (p : Nat) : List DeviceAddress :=
  devices.filter fun a => decide (∀ i < p, a.getLsbD i = d.getLsbD i)

/-- The samples of position `p` of the walk to `d` (R220). -/
def samplesTowards (devices : List DeviceAddress) (d : DeviceAddress) (p : Nat) : Bool × Bool :=
  (wiredAnd (agreeing devices d p) p false, wiredAnd (agreeing devices d p) p true)

/-- The sample pairs of the whole walk to `d`. -/
def pairsTowards (devices : List DeviceAddress) (d : DeviceAddress) : List (Bool × Bool) :=
  (List.range 64).map (samplesTowards devices d)

/-- The ideal bus before position `p` of the walk to `d` (R220). -/
def busTowards (devices : List DeviceAddress) (d : DeviceAddress) (p : Nat) : Transport :=
  .ideal { devices := devices, active := agreeing devices d p, commandBits := 0, pos := p,
           complementNext := false }

/-- Another device that agrees with `d` below `p` disagrees at `p`. -/
def CollidesAt (devices : List DeviceAddress) (d : DeviceAddress) (p : Nat) : Prop :=
  ∃ a ∈ devices, (∀ i < p, a.getLsbD i = d.getLsbD i) ∧ a.getLsbD p ≠ d.getLsbD p

section
variable {devices : List DeviceAddress} {d : DeviceAddress}

theorem mem_agreeing {a : DeviceAddress} {p : Nat} :
    a ∈ agreeing devices d p ↔ a ∈ devices ∧ ∀ i < p, a.getLsbD i = d.getLsbD i := by
  simp [agreeing]

@[simp] theorem agreeing_zero : agreeing devices d 0 = devices := by simp [agreeing]

/-- The bit written back keeps the devices that agree with it active (R220). -/
theorem agreeing_succ (p : Nat) :
    agreeing devices d (p + 1)
      = (agreeing devices d p).filter fun a => a.getLsbD p == d.getLsbD p := by
  rw [agreeing, agreeing, List.filter_filter]
  refine List.filter_congr fun a _ => ?_
  rw [Bool.eq_iff_iff, Bool.and_eq_true, decide_eq_true_iff, decide_eq_true_iff, beq_iff_eq, and_comm]
  exact Nat.forall_lt_succ_right

@[simp] theorem length_pairsTowards : (pairsTowards devices d).length = 64 := by simp [pairsTowards]

theorem getElem?_pairsTowards {p : Nat} (hp : p < 64) :
    (pairsTowards devices d)[p]? = some (samplesTowards devices d p) := by
  simp [pairsTowards, hp]

theorem getElem?_pairsTowards_eq_some_iff {p : Nat} {q : Bool × Bool} :
    (pairsTowards devices d)[p]? = some q ↔ p < 64 ∧ samplesTowards devices d p = q := by
  rcases Nat.lt_or_ge p 64 with hlt | hge
  · rw [getElem?_pairsTowards hlt]
    simp [hlt]
  · rw [List.getElem?_eq_none (by simpa using hge)]
    simp [Nat.not_lt.mpr hge]

/-- Both bit values among the active devices are a collision (R220). -/
theorem samplesTowards_of_collision (hd : d ∈ devices) {p : Nat} (h : CollidesAt devices d p) :
    samplesTowards devices d p = (false, false) := by
  obtain ⟨a, ha, hsame, hne⟩ := h
  have hown : d ∈ agreeing devices d p := mem_agreeing.mpr ⟨hd, fun _ _ => rfl⟩
  have hother : a ∈ agreeing devices d p := mem_agreeing.mpr ⟨ha, hsame⟩
  have hboth (b : Bool) : ∃ x ∈ agreeing devices d p, x.getLsbD p = b := by
    by_cases hb : d.getLsbD p = b
    · exact ⟨d, hown, hb⟩
    · exact ⟨a, hother, by rw [Bool.eq_not.mpr hne, Bool.eq_not.mpr hb, Bool.not_not]⟩
  have hlow (c : Bool) : wiredAnd (agreeing devices d p) p c = false := by
    obtain ⟨x, hx, hbit⟩ := hboth c
    exact List.all_eq_false.mpr ⟨x, hx, by simp [hbit]⟩
  rw [samplesTowards, hlow, hlow]

/-- One bit value among the active devices is that of `d` (R220). -/
theorem samplesTowards_of_no_collision (hd : d ∈ devices) {p : Nat} (h : ¬ CollidesAt devices d p) :
    samplesTowards devices d p = (d.getLsbD p, !d.getLsbD p) := by
  have hown : d ∈ agreeing devices d p := mem_agreeing.mpr ⟨hd, fun _ _ => rfl⟩
  have hline (c : Bool) : wiredAnd (agreeing devices d p) p c = (d.getLsbD p != c) := by
    have hbits : ∀ a ∈ agreeing devices d p, (a.getLsbD p != c) = (d.getLsbD p != c) := fun a ha => by
      obtain ⟨hmem, hsame⟩ := mem_agreeing.mp ha
      rw [not_not.mp fun hne => h ⟨a, hmem, hsame, hne⟩]
    rw [wiredAnd, Bool.eq_iff_iff, List.all_eq_true]
    exact ⟨fun hall => hall d hown, fun hbit a ha => (hbits a ha).trans hbit⟩
  rw [samplesTowards, hline, hline, Bool.bne_false, Bool.bne_true]

theorem samplesTowards_eq_collision_iff (hd : d ∈ devices) {p : Nat} :
    samplesTowards devices d p = (false, false) ↔ CollidesAt devices d p := by
  refine ⟨fun h => ?_, samplesTowards_of_collision hd⟩
  by_contra hno
  rw [samplesTowards_of_no_collision hd hno] at h
  simp at h

theorem collision_pairsTowards_iff (hd : d ∈ devices) {p : Nat} :
    (pairsTowards devices d)[p]? = some (false, false) ↔ p < 64 ∧ CollidesAt devices d p := by
  rw [getElem?_pairsTowards_eq_some_iff, samplesTowards_eq_collision_iff hd]

theorem not_bothOne_pairsTowards (hd : d ∈ devices) : (true, true) ∉ pairsTowards devices d := by
  intro h
  obtain ⟨p, -, hp⟩ := List.mem_map.mp h
  by_cases hc : CollidesAt devices d p
  · simp [samplesTowards_of_collision hd hc] at hp
  · simp [samplesTowards_of_no_collision hd hc] at hp

/-- A collision on the way to `d` at a bit 0 is a later device. -/
theorem CollidesAt.exists_after {p : Nat} (h : CollidesAt devices d p) (hbit : d.getLsbD p = false) :
    ∃ a ∈ devices, SplitsAt p d a := by
  obtain ⟨a, ha, hsame, hne⟩ := h
  exact ⟨a, ha, fun i hi => (hsame i hi).symm, hbit, by simpa [hbit] using hne⟩

/-- A collision on the way to `d` at a bit 1 is an earlier device. -/
theorem CollidesAt.exists_before {p : Nat} (h : CollidesAt devices d p) (hbit : d.getLsbD p = true) :
    ∃ a ∈ devices, SplitsAt p a d := by
  obtain ⟨a, ha, hsame, hne⟩ := h
  exact ⟨a, ha, hsame, by simpa [hbit] using hne, hbit⟩

/-- Each collision leaves a device behind, so a walk meets fewer collisions than there are devices
(R230). -/
theorem collisionsBefore_add_length_agreeing (hd : d ∈ devices) {p : Nat} (hp : p ≤ 64) :
    collisionsBefore (pairsTowards devices d) p + (agreeing devices d p).length ≤ devices.length := by
  induction p with
  | zero => simp
  | succ p ih =>
    have hbefore := ih (by omega)
    rw [collisionsBefore_succ (getElem?_pairsTowards (by omega)), agreeing_succ]
    split
    next hc =>
      obtain ⟨a, ha, hsame, hne⟩ := (samplesTowards_eq_collision_iff hd).mp hc
      have hlost : ((agreeing devices d p).filter fun a => a.getLsbD p == d.getLsbD p).length
          < (agreeing devices d p).length :=
        List.length_filter_lt_length_iff_exists.mpr
          ⟨a, mem_agreeing.mpr ⟨ha, hsame⟩, by simpa using hne⟩
      omega
    next =>
      have hkept := List.length_filter_le (fun a => a.getLsbD p == d.getLsbD p) (agreeing devices d p)
      omega

theorem count_pairsTowards_lt (hd : d ∈ devices) :
    (pairsTowards devices d).count (false, false) < devices.length := by
  have hsum := collisionsBefore_add_length_agreeing hd (p := 64) le_rfl
  have hown : 0 < (agreeing devices d 64).length :=
    List.length_pos_of_mem (mem_agreeing.mpr ⟨hd, fun _ _ => rfl⟩)
  have hall := collisionsBefore_length (pairsTowards devices d)
  rw [length_pairsTowards] at hall
  omega

/-- The walks to two devices meet the same samples up to the bit at which the devices split. -/
theorem samplesTowards_congr {d' : DeviceAddress} {p : Nat}
    (h : ∀ i < p, d.getLsbD i = d'.getLsbD i) :
    samplesTowards devices d p = samplesTowards devices d' p := by
  have hactive : agreeing devices d p = agreeing devices d' p :=
    List.filter_congr fun a _ => decide_eq_decide.mpr
      (forall₂_congr fun i hi => by rw [h i hi])
  rw [samplesTowards, samplesTowards, hactive]

theorem collisionsBefore_pairsTowards_congr {d' : DeviceAddress} {p : Nat} (hp : p ≤ 64)
    (h : ∀ i < p, d.getLsbD i = d'.getLsbD i) :
    collisionsBefore (pairsTowards devices d) p = collisionsBefore (pairsTowards devices d') p := by
  induction p with
  | zero => rfl
  | succ p ih =>
    have hbelow (i : Nat) (hi : i < p) := h i (Nat.lt_succ_of_lt hi)
    rw [collisionsBefore_succ (getElem?_pairsTowards (by omega)),
      collisionsBefore_succ (getElem?_pairsTowards (by omega)), ih (by omega) hbelow,
      samplesTowards_congr hbelow]

end

end Sys2Proof.Proofs
end

section
/-! PROOFS. Which device a call on the ideal bus finds: the one VISITED leads to, and after the VISITED
update the next one in order (R227, R229, R230). -/

namespace Sys2Proof.Proofs

open Sys2Proof.Machine Sys2Proof.Safety

section
variable {devices : List DeviceAddress} {d : DeviceAddress}

/-! ### VISITED that leads to a device -/

/-- VISITED takes the branch of `d` at every collision on the way to it (R227, R230). -/
def Leads (v : BitVec 32) (devices : List DeviceAddress) (d : DeviceAddress) : Prop :=
  ∀ p < 64, CollidesAt devices d p →
    v.getLsbD (collisionsBefore (pairsTowards devices d) p) = d.getLsbD p

/-- Such a VISITED chooses the bits of `d`. -/
theorem Leads.chosenAt_eq_getLsbD {v : BitVec 32} (h : Leads v devices d) (hd : d ∈ devices) {p : Nat}
    (hp : p < 64) : chosenAt v (pairsTowards devices d) p = d.getLsbD p := by
  have hpair := getElem?_pairsTowards (devices := devices) (d := d) hp
  by_cases hc : CollidesAt devices d p
  · rw [samplesTowards_of_collision hd hc] at hpair
    rw [chosenAt_eq hpair, chosenBit, if_pos ⟨rfl, rfl⟩, h p hp hc]
  · rw [samplesTowards_of_no_collision hd hc] at hpair
    rw [chosenAt_eq hpair, chosenBit, if_neg (by simp)]

theorem Leads.chosenBits_eq {v : BitVec 32} (h : Leads v devices d) (hd : d ∈ devices) :
    chosenBits v (pairsTowards devices d) 64 = d :=
  BitVec.eq_of_getLsbD_eq fun i hi => by
    rw [getLsbD_chosenBits _ _ _ hi, decide_eq_true hi, Bool.true_and, h.chosenAt_eq_getLsbD hd hi]

theorem transportWrite_busTowards (p : Nat) :
    transportWrite (busSampled (busTowards devices d p)) (d.getLsbD p) = busTowards devices d (p + 1) := by
  rw [busTowards, busTowards, agreeing_succ]
  rfl

/-- On the ideal bus a call meets the walk to the device its VISITED leads to (R220, R230). -/
theorem Leads.meets {s : State} {b : IdealBus} (h : Leads s.search.visited b.devices d)
    (hbus : s.bus = .ideal b) (hd : d ∈ b.devices) (hcapacity : b.devices.length ≤ s.cfg.searchCap + 1) :
    Meets s (pairsTowards b.devices d) (busTowards b.devices d) where
  present := by
    have hsome : b.devices.isEmpty = false := List.isEmpty_eq_false_iff.mpr (List.ne_nil_of_mem hd)
    rw [hbus, transportReset, hsome]
    rfl
  start := by
    rw [hbus, busTowards, agreeing_zero]
    rfl
  noConflict := not_bothOne_pairsTowards hd
  capacity := Nat.le_of_lt_succ ((count_pairsTowards_lt hd).trans_le hcapacity)
  samples p q hq := (getElem?_pairsTowards_eq_some_iff.mp hq).2
  write p hp := by
    rw [h.chosenAt_eq_getLsbD hd (length_pairsTowards (d := d) ▸ hp), transportWrite_busTowards]

/-! ### The device found first, the next one and the last -/

/-- VISITED = 0 leads to the first device. -/
theorem leads_zero_of_first (hfirst : ∀ a ∈ devices, ¬ a.reverse < d.reverse) :
    Leads 0#32 devices d := by
  intro p _ hc
  cases hbit : d.getLsbD p with
  | false => exact BitVec.getLsbD_zero
  | true =>
    obtain ⟨a, ha, hsplit⟩ := hc.exists_before hbit
    exact absurd hsplit.reverse_lt (hfirst a ha)

/-- After the last device no collision is at branch 0 (R229). -/
theorem Leads.deepestZero_of_last {v : BitVec 32} (h : Leads v devices d) (hd : d ∈ devices)
    (hlast : ∀ a ∈ devices, ¬ d.reverse < a.reverse) :
    deepestZero v ((pairsTowards devices d).count (false, false)) = none := by
  rw [← collisionsBefore_length, deepestZero_eq_none_iff]
  intro k hk
  obtain ⟨p, -, hpair, rfl⟩ := exists_collision_of_ordinal hk
  obtain ⟨hp, hc⟩ := (collision_pairsTowards_iff hd).mp hpair
  cases hbit : d.getLsbD p with
  | true => exact (h p hp hc).trans hbit
  | false =>
    obtain ⟨a, ha, hsplit⟩ := hc.exists_after hbit
    exact absurd hsplit.reverse_lt (hlast a ha)

/-- The deepest branch-0 collision on the way to `d` is where the next device splits from it. -/
theorem Leads.deepestZero_of_next {v : BitVec 32} (h : Leads v devices d) (hd : d ∈ devices)
    {d' : DeviceAddress} (hd' : d' ∈ devices) {q : Nat} (hsplit : SplitsAt q d d')
    (hnext : ∀ a ∈ devices, d.reverse < a.reverse → ¬ a.reverse < d'.reverse) :
    deepestZero v ((pairsTowards devices d).count (false, false))
      = some (collisionsBefore (pairsTowards devices d) q) := by
  have hq := hsplit.lt
  obtain ⟨hsame, hzero, hone⟩ := hsplit
  have hcollides : CollidesAt devices d q :=
    ⟨d', hd', fun i hi => (hsame i hi).symm, by rw [hzero, hone]; decide⟩
  rw [← collisionsBefore_length]
  refine deepestZero_eq_some_of (collisionsBefore_lt (by simpa using hq)
    ((collision_pairsTowards_iff hd).mpr ⟨hq, hcollides⟩)) ((h q hq hcollides).trans hzero)
    fun k hqk hk => ?_
  obtain ⟨p, -, hpair, rfl⟩ := exists_collision_of_ordinal hk
  obtain ⟨hp, hc⟩ := (collision_pairsTowards_iff hd).mp hpair
  have hqp : q < p := Nat.lt_of_not_le fun hle => absurd (collisionsBefore_mono _ hle) (Nat.not_le.mpr hqk)
  cases hbit : d.getLsbD p with
  | true => exact (h p hp hc).trans hbit
  | false =>
    obtain ⟨a, ha, hafter⟩ := hc.exists_after hbit
    obtain ⟨hagree, -, -⟩ := id hafter
    have hbefore : SplitsAt q a d' :=
      ⟨fun i hi => (hagree i (hi.trans hqp)).symm.trans (hsame i hi),
        (hagree q hqp).symm.trans hzero, hone⟩
    exact absurd hbefore.reverse_lt (hnext a ha hafter.reverse_lt)

/-- The VISITED update leads to the next device: the same way up to the split, branch 1 there and branch 0
beyond (R229, R230). -/
theorem Leads.next {v : BitVec 32} (h : Leads v devices d) (hd : d ∈ devices)
    {d' : DeviceAddress} (hd' : d' ∈ devices) {q : Nat} (hsplit : SplitsAt q d d')
    (hnext : ∀ a ∈ devices, d.reverse < a.reverse → ¬ a.reverse < d'.reverse)
    (hm : collisionsBefore (pairsTowards devices d) q < 32) :
    Leads (nextVisited v (some (collisionsBefore (pairsTowards devices d) q))) devices d' := by
  have hq := hsplit.lt
  obtain ⟨hsame, hzero, hone⟩ := id hsplit
  have hordinal (p : Nat) (hp : p ≤ q) : collisionsBefore (pairsTowards devices d) p
      = collisionsBefore (pairsTowards devices d') p :=
    collisionsBefore_pairsTowards_congr (hp.trans hq.le) fun i hi => hsame i (hi.trans_le hp)
  have hcollides : CollidesAt devices d' q := ⟨d, hd, hsame, by rw [hzero, hone]; decide⟩
  intro p hp hc
  rw [getLsbD_nextVisited_some v hm, hordinal q le_rfl]
  rcases lt_trichotomy p q with hlt | rfl | hgt
  · obtain ⟨a, ha, hagree, hne⟩ := id hc
    have hcd : CollidesAt devices d p :=
      ⟨a, ha, fun i hi => (hagree i hi).trans (hsame i (hi.trans hlt)).symm, by rwa [hsame p hlt]⟩
    rw [if_pos (collisionsBefore_lt hlt ((collision_pairsTowards_iff hd').mpr ⟨hp, hc⟩)),
      ← hordinal p hlt.le, h p hp hcd, hsame p hlt]
  · simp [hone]
  · have hdeeper := collisionsBefore_lt hgt ((collision_pairsTowards_iff hd').mpr ⟨hq, hcollides⟩)
    rw [if_neg (Nat.not_lt.mpr hdeeper.le), decide_eq_false hdeeper.ne']
    cases hbit : d'.getLsbD p with
    | false => rfl
    | true =>
      obtain ⟨a, ha, hbefore⟩ := hc.exists_before hbit
      obtain ⟨hagree, -, -⟩ := id hbefore
      have hafter : SplitsAt q d a :=
        ⟨fun i hi => (hsame i hi).trans (hagree i (hi.trans hgt)).symm, hzero,
          (hagree q hgt).trans hone⟩
      exact absurd hbefore.reverse_lt (hnext a ha hafter.reverse_lt)

end

end Sys2Proof.Proofs
end

section
/-! PROOFS. The ideal bus is enumerated: the calls after SRCH_START find the devices one after the other
(R230). -/

namespace Sys2Proof.Proofs

open Sys2Proof.Machine Sys2Proof.Safety

/-- A session on the ideal bus whose next call finds `d` (R230). -/
structure Finds (s : State) (devices : List DeviceAddress) (d : DeviceAddress) : Prop where
  live : sessionLive s.search = true
  bus : ∃ b, s.bus = .ideal b ∧ b.devices = devices
  visitedFits : s.cfg.searchCap ≤ 32
  capacity : devices.length ≤ s.cfg.searchCap + 1
  member : d ∈ devices
  leads : Leads s.search.visited devices d

/-- What the call that finds `d` leaves: its address, a success, and the VISITED update over the collisions
on the way to it (R229). -/
structure Found (s t : State) (devices : List DeviceAddress) (d : DeviceAddress) : Prop where
  addrOut : t.addrOut = d
  res : t.res = 1#32
  found : t.status.found = true
  cfg : t.cfg = s.cfg
  bus : ∃ b, t.bus = .ideal b ∧ b.devices = devices
  errCode : t.search.errCode = s.search.errCode
  visited : t.search.visited = nextVisited s.search.visited
    (deepestZero s.search.visited ((pairsTowards devices d).count (false, false)))
  exhausted : t.search.exhausted = (t.search.visited == 0#32)

section
variable {s : State} {devices : List DeviceAddress} {d : DeviceAddress}

theorem Finds.found (h : Finds s devices d) (hcrc : crc8 (addrPayload d) = addrByte d 7) :
    Found s (after .srchNext s) devices d := by
  obtain ⟨b, hbus, rfl⟩ := h.bus
  have hmeets := h.leads.meets hbus h.member h.capacity
  have haddr : (atPosition s (pairsTowards b.devices d) (busTowards b.devices d) 64).addrOut = d :=
    h.leads.chosenBits_eq h.member
  have hcall := hmeets.searchNext_complete h.live length_pairsTowards
  rw [finishWalk_of_match (by rw [haddr, hcrc]), searchSuccess_eq] at hcall
  rw [after_srchNext, hcall]
  exact ⟨haddr, rfl, rfl, rfl, ⟨_, rfl, rfl⟩, rfl, rfl, rfl⟩

/-- The call after the one that finds `d` finds the next device in order (R229, R230). -/
theorem Finds.next (h : Finds s devices d) {t : State} (ht : Found s t devices d) {d' : DeviceAddress}
    (hd' : d' ∈ devices) (hlt : d.reverse < d'.reverse)
    (hnext : ∀ a ∈ devices, d.reverse < a.reverse → ¬ a.reverse < d'.reverse) :
    Finds t devices d' := by
  obtain ⟨q, hsplit⟩ := reverse_lt_iff.mp hlt
  have hdeepest := h.leads.deepestZero_of_next h.member hd' hsplit hnext
  have hordinal : collisionsBefore (pairsTowards devices d) q < 32 := by
    have hcount := count_pairsTowards_lt h.member
    have hbelow := lt_of_deepestZero_eq_some hdeepest
    have hcapacity := h.capacity
    have hfits := h.visitedFits
    omega
  have hvisited := hdeepest ▸ ht.visited
  refine ⟨(sessionLive_iff _).mpr ⟨?_, ?_⟩, ht.bus, ?_, ?_, hd', ?_⟩
  · rw [ht.errCode]
    exact ((sessionLive_iff _).mp h.live).1
  · rw [ht.exhausted, hvisited]
    exact beq_eq_false_iff_ne.mpr (nextVisited_some_ne_zero _ hordinal)
  · rw [ht.cfg]
    exact h.visitedFits
  · rw [ht.cfg]
    exact h.capacity
  · rw [hvisited]
    exact h.leads.next h.member hd' hsplit hnext hordinal

/-- The call that finds the last device finishes the session (R229). -/
theorem Finds.finished_of_last (h : Finds s devices d) {t : State} (ht : Found s t devices d)
    (hlast : ∀ a ∈ devices, ¬ d.reverse < a.reverse) :
    t.search.visited = 0#32 ∧ t.search.exhausted = true := by
  have hvisited : t.search.visited = 0#32 := by
    rw [ht.visited, h.leads.deepestZero_of_last h.member hlast]
    rfl
  exact ⟨hvisited, by rw [ht.exhausted, hvisited]; rfl⟩

/-- A run of calls from the one that finds `d`, with `later` the devices after `d` in order: it finds them
one after the other, and the last call finishes the session (R230). -/
theorem Finds.issues_srchNext (hright : ∀ a ∈ devices, crc8 (addrPayload a) = addrByte a 7)
    {later : List DeviceAddress} (h : Finds s devices d)
    (horder : (d :: later).Pairwise fun x y => x.reverse < y.reverse)
    (hlater : ∀ a, a ∈ later ↔ a ∈ devices ∧ d.reverse < a.reverse) :
    (issues .srchNext (later.length + 1) s).map State.addrOut = d :: later
    ∧ (∀ t ∈ issues .srchNext (later.length + 1) s, t.res = 1#32 ∧ t.status.found = true)
    ∧ ∃ t, (issues .srchNext (later.length + 1) s).getLast? = some t
        ∧ t.search.visited = 0#32 ∧ t.search.exhausted = true := by
  induction later generalizing s d with
  | nil =>
    have hfound := h.found (hright d h.member)
    have hlast : ∀ a ∈ devices, ¬ d.reverse < a.reverse := fun a ha hlt =>
      List.not_mem_nil ((hlater a).mpr ⟨ha, hlt⟩)
    refine ⟨congrArg (fun a => [a]) hfound.addrOut, fun t ht => ?_, _, rfl,
      h.finished_of_last hfound hlast⟩
    obtain rfl := List.mem_singleton.mp ht
    exact ⟨hfound.res, hfound.found⟩
  | cons d' later ih =>
    have hfound := h.found (hright d h.member)
    obtain ⟨hfirst, horder'⟩ := List.pairwise_cons.mp horder
    obtain ⟨hfirst', -⟩ := List.pairwise_cons.mp horder'
    obtain ⟨hd', hlt⟩ := (hlater d').mp List.mem_cons_self
    have hnext : ∀ a ∈ devices, d.reverse < a.reverse → ¬ a.reverse < d'.reverse := by
      intro a ha hda
      rcases List.mem_cons.mp ((hlater a).mpr ⟨ha, hda⟩) with rfl | hmem
      · exact BitVec.lt_irrefl _
      · exact BitVec.lt_asymm (hfirst' a hmem)
    have hlater' : ∀ a, a ∈ later ↔ a ∈ devices ∧ d'.reverse < a.reverse := by
      refine fun a => ⟨fun hmem => ⟨((hlater a).mp (List.mem_cons_of_mem _ hmem)).1, hfirst' a hmem⟩,
        fun ⟨ha, hlt'⟩ => ?_⟩
      rcases List.mem_cons.mp ((hlater a).mpr ⟨ha, BitVec.lt_trans hlt hlt'⟩) with rfl | hmem
      · exact absurd hlt' (BitVec.lt_irrefl _)
      · exact hmem
    obtain ⟨haddr, hall, t, ht, hdone⟩ := ih (h.next hfound hd' hlt hnext) horder' hlater'
    refine ⟨congrArg₂ List.cons hfound.addrOut haddr, fun r hr => ?_, t, ?_, hdone⟩
    · rcases List.mem_cons.mp hr with rfl | hmem
      · exact ⟨hfound.res, hfound.found⟩
      · exact hall r hmem
    · exact (List.getLast?_cons_cons ..).trans ht

/-- After SRCH_START the next call finds the first device (R221, R230). -/
theorem finds_first_after_srchStart (hwf : s.cfg.wf = true) {b : IdealBus} (hbus : s.bus = .ideal b)
    (hcapacity : b.devices.length ≤ s.cfg.searchCap + 1) (hd : d ∈ b.devices)
    (hfirst : ∀ a ∈ b.devices, ¬ a.reverse < d.reverse) :
    Finds (after .srchStart s) b.devices d :=
  ⟨rfl, ⟨b, hbus, rfl⟩, wf_searchCap_le hwf, hcapacity, hd, leads_zero_of_first hfirst⟩

end

/-- The devices in the order in which a search finds them (R230). -/
theorem exists_ordered_perm {l : List DeviceAddress} (h : l.Nodup) :
    ∃ o : List DeviceAddress, o.Perm l ∧ o.Pairwise fun x y => x.reverse < y.reverse := by
  have hperm := List.mergeSort_perm l fun x y => decide (x.reverse ≤ y.reverse)
  have hsorted := List.pairwise_mergeSort (le := fun x y : DeviceAddress => decide (x.reverse ≤ y.reverse))
    (fun _ _ _ hxy hyz => decide_eq_true (BitVec.le_trans (of_decide_eq_true hxy) (of_decide_eq_true hyz)))
    (fun x y => by simpa using BitVec.le_total x.reverse y.reverse) l
  refine ⟨_, hperm, (hsorted.and (hperm.nodup_iff.mpr h)).imp fun {x y} ⟨hle, hne⟩ => ?_⟩
  rcases eq_or_reverse_lt_or_gt x y with heq | hlt | hgt
  · exact absurd heq hne
  · exact hlt
  · exact absurd (of_decide_eq_true hle) (BitVec.not_le.mpr hgt)

/-- Settles O35: the calls follow the devices in order, from the first, which VISITED = 0 leads to. -/
theorem idealBusIsEnumerated : Obligations.IdealBusIsEnumerated := by
  intro s b hwf hbus hsome hnodup hcapacity hright
  obtain ⟨order, hperm, horder⟩ := exists_ordered_perm hnodup
  cases order with
  | nil => exact absurd hperm.nil_eq.symm hsome
  | cons d later =>
    obtain ⟨hfirst, -⟩ := List.pairwise_cons.mp horder
    have hd : d ∈ b.devices := hperm.mem_iff.mp List.mem_cons_self
    have hcase (a : DeviceAddress) (ha : a ∈ b.devices) : a = d ∨ a ∈ later :=
      List.mem_cons.mp (hperm.mem_iff.mpr ha)
    have hlater (a : DeviceAddress) : a ∈ later ↔ a ∈ b.devices ∧ d.reverse < a.reverse := by
      refine ⟨fun ha => ⟨hperm.mem_iff.mp (List.mem_cons_of_mem _ ha), hfirst a ha⟩,
        fun ⟨ha, hlt⟩ => ?_⟩
      exact (hcase a ha).resolve_left (by rintro rfl; exact BitVec.lt_irrefl _ hlt)
    have hstart : Finds (after .srchStart s) b.devices d :=
      finds_first_after_srchStart hwf hbus hcapacity hd fun a ha => by
        rcases hcase a ha with rfl | hmem
        · exact BitVec.lt_irrefl _
        · exact BitVec.lt_asymm (hfirst a hmem)
    have hlength : b.devices.length = later.length + 1 := hperm.length_eq.symm
    obtain ⟨haddr, hall, t, ht, hvisited, hdone⟩ := hstart.issues_srchNext hright horder hlater
    intro calls
    simp only [calls, hlength, haddr]
    exact ⟨hperm, horder, hall, t, ht, hvisited, hdone, srchNextOnADeadSessionDoesNothing t (.inr hdone)⟩

end Sys2Proof.Proofs
end

section
/-! PROOFS. The RegulatorCore (R261 to R269): the equation of each way a step can go, the numbers its
registers read back, and what the three commands leave. -/

namespace Sys2Proof.Proofs

open Sys2Proof.Machine Sys2Proof.Safety

/-! ### The thresholds of a well-formed configuration -/

theorem regParams_largeErr_nonneg {p : RegParams} (h : p.wf = true) : 0 ≤ p.largeErr := by
  simp only [RegParams.wf, Bool.and_eq_true, decide_eq_true_eq] at h
  omega

theorem halfRange_nonneg {p : RegParams} (hp : p.wf = true) : 0 ≤ halfRange p := by
  obtain ⟨-, hmin, hmax, -⟩ := regParams_outputRange hp
  exact le_tdiv_of_mul_le (by omega) (by omega)

theorem outMax_mem {p : RegParams} (hp : p.wf = true) : p.outMin ≤ p.outMax ∧ p.outMax ≤ p.outMax := by
  obtain ⟨-, hmin, hmax, -⟩ := regParams_outputRange hp
  omega

theorem outMin_mem {p : RegParams} (hp : p.wf = true) : p.outMin ≤ p.outMin ∧ p.outMin ≤ p.outMax := by
  obtain ⟨-, hmin, hmax, -⟩ := regParams_outputRange hp
  omega

/-! ### The ways a step can go -/

section
variable {p : RegParams} {r : Regulator} {cur : Half}

theorem regStep_of_largeErr_lt (h : p.largeErr < regErr r cur) :
    regStep p r cur = regReturn { r with prevInput := cur, havePrev := true } p.outMax :=
  if_pos h

theorem regStep_of_lt_neg_largeErr (hp : p.wf = true) (h : regErr r cur < -p.largeErr) :
    regStep p r cur = regReturn { r with prevInput := cur, havePrev := true } p.outMin := by
  have hnonneg := regParams_largeErr_nonneg hp
  exact (if_neg (by omega)).trans (if_pos h)

/-- With a small error DERIV is updated and the derivative decides (R263). -/
theorem regStep_of_small_err (hlow : -p.largeErr ≤ regErr r cur) (hhigh : regErr r cur ≤ p.largeErr) :
    regStep p r cur =
      let r2 := { r with prevInput := cur, havePrev := true, deriv := toWord (regDeriv p r cur) }
      if halfRange p < regD p r cur then regReturn r2 p.outMax
      else if regD p r cur < -halfRange p then regReturn r2 p.outMin
      else regReturn { r2 with integral := toWord (regIntegral p r cur) } (regOutput p r cur) :=
  (if_neg (not_lt.mpr hhigh)).trans (if_neg (not_lt.mpr hlow))

theorem regStep_of_halfRange_lt (hlow : -p.largeErr ≤ regErr r cur) (hhigh : regErr r cur ≤ p.largeErr)
    (h : halfRange p < regD p r cur) :
    regStep p r cur = regReturn { r with prevInput := cur, havePrev := true,
                                         deriv := toWord (regDeriv p r cur) } p.outMax :=
  (regStep_of_small_err hlow hhigh).trans (if_pos h)

theorem regStep_of_lt_neg_halfRange (hp : p.wf = true) (hlow : -p.largeErr ≤ regErr r cur)
    (hhigh : regErr r cur ≤ p.largeErr) (h : regD p r cur < -halfRange p) :
    regStep p r cur = regReturn { r with prevInput := cur, havePrev := true,
                                         deriv := toWord (regDeriv p r cur) } p.outMin := by
  have hnonneg := halfRange_nonneg hp
  exact (regStep_of_small_err hlow hhigh).trans ((if_neg (by omega)).trans (if_pos h))

theorem regStep_of_normal (hlow : -p.largeErr ≤ regErr r cur) (hhigh : regErr r cur ≤ p.largeErr)
    (hdlow : -halfRange p ≤ regD p r cur) (hdhigh : regD p r cur ≤ halfRange p) :
    regStep p r cur = regReturn { r with prevInput := cur, havePrev := true,
                                         deriv := toWord (regDeriv p r cur),
                                         integral := toWord (regIntegral p r cur) }
      (regOutput p r cur) :=
  (regStep_of_small_err hlow hhigh).trans
    ((if_neg (not_lt.mpr hdhigh)).trans (if_neg (not_lt.mpr hdlow)))

theorem regStep_deriv_of_small_err (hlow : -p.largeErr ≤ regErr r cur)
    (hhigh : regErr r cur ≤ p.largeErr) :
    (regStep p r cur).reg.deriv = toWord (regDeriv p r cur) := by
  rw [regStep_of_small_err hlow hhigh]
  dsimp only
  split
  · rfl
  · split <;> rfl

end

/-! ### The numbers the registers read back -/

/-- INTEGRAL lies in its clamp range [I_MIN, I_MAX] (R262, R268). -/
abbrev IntegralClamped (p : RegParams) (r : Regulator) : Prop :=
  integralMin p ≤ r.integral.toInt ∧ r.integral.toInt ≤ integralMax p

section
variable {p : RegParams} (hp : p.wf = true) (r : Regulator) (cur : Half)
include hp

theorem regIntegral_eq_max_min : regIntegral p r cur
    = max (integralMin p) (min (integralMax p) (r.integral.toInt + tdiv (p.ki * regErr r cur) p.iDiv)) := by
  obtain ⟨-, hmin, hmax, -⟩ := integralRange hp
  exact clamp_eq_max_min _ _ _ (by omega)

theorem regDeriv_eq_max_min :
    regDeriv p r cur = max (-p.dLimit) (min p.dLimit (regD p r cur)) := by
  obtain ⟨-, -, hlimit, -⟩ := regParams_divisors hp
  exact clamp_eq_max_min _ _ _ (by omega)

theorem toInt_toWord_regIntegral : (toWord (regIntegral p r cur)).toInt = regIntegral p r cur := by
  obtain ⟨hmin, -, -, hmax⟩ := integralRange hp
  have hmem := regIntegral_mem hp r cur
  exact toInt_toWord_output hp (by omega)

theorem toInt_toWord_regDeriv : (toWord (regDeriv p r cur)).toInt = regDeriv p r cur := by
  obtain ⟨-, -, -, hlimit⟩ := regParams_divisors hp
  have hmem := regDeriv_mem hp r cur
  exact toInt_toWord _ (by omega) (by omega)

/-- The output before the average (R263). -/
theorem regOutput_eq : ∃ y,
    y = max p.outMin (min p.outMax (p.kp * regErr r cur + regIntegral p r cur + regDeriv p r cur))
    ∧ regOutput p r cur = if p.outAvg then tdiv (y + r.lastOut.toInt) 2 else y := by
  obtain ⟨hmin, hmax⟩ := outMax_mem hp
  refine ⟨_, rfl, ?_⟩
  rw [← clamp_eq_max_min _ _ _ hmin]
  rfl

/-- RES holds the output whatever LAST_OUT is: the mean of two int32 numbers is an int32 (R263). -/
theorem toInt_toWord_regOutput : (toWord (regOutput p r cur)).toInt = regOutput p r cur := by
  obtain ⟨hmin, -, -, hmax⟩ := regParams_outputRange hp
  obtain ⟨y, hy, hout⟩ := regOutput_eq hp r cur
  have hlast := r.lastOut.le_toInt
  have hlast' := r.lastOut.toInt_lt
  have hrange := outMax_mem hp
  have hmem : p.outMin ≤ y ∧ y ≤ p.outMax := by omega
  rw [hout]
  split
  · have hmean : -2147483648 ≤ tdiv (y + r.lastOut.toInt) 2 :=
      le_tdiv_of_mul_le (by omega) (by omega)
    have hmean' : tdiv (y + r.lastOut.toInt) 2 ≤ 2147483647 :=
      tdiv_le_of_le_mul (by omega) (by omega)
    exact toInt_toWord _ hmean hmean'
  · exact toInt_toWord_output hp hmem

/-- A step keeps INTEGRAL in its clamp range, whatever the other registers hold (R268). -/
theorem integralClamped_regStep (h : IntegralClamped p r) :
    IntegralClamped p (regStep p r cur).reg := by
  rcases regStep_cases p r cur with ⟨y, -, heq⟩ | ⟨y, -, -, -, heq⟩ | ⟨-, -, -, -, heq⟩ <;> rw [heq]
  · exact h
  · exact h
  · exact toWord_regIntegral_mem hp r cur

end

/-! ### The commands -/

theorem after_regStep_reg (s : State) (u : UnitId) (cur : Half) :
    (after (.regStep u cur) s).reg u = (regStep (s.cfg.reg u) (s.reg u) cur).reg := by simp

/-- What every state keeps that a command leaves, every state of a run of that command keeps. -/
theorem forall_mem_issues {P : State → Prop} {i : Instr} (hstep : ∀ s, P s → P (after i s)) (n : Nat)
    {s : State} (h : P s) : ∀ t ∈ issues i n s, P t := by
  induction n generalizing s with
  | zero => exact fun t ht => absurd ht List.not_mem_nil
  | succ n ih => exact List.forall_mem_cons.mpr ⟨hstep s h, ih (hstep s h)⟩

/-- Settles O36: an int32 register holds every int16 immediate. -/
theorem regSettgtSetsTheTarget : Obligations.RegSettgtSetsTheTarget := by
  intro s u v
  have htarget : ((after (.regSettgt u v) s).reg u).target = toWord v.toInt := by
    rw [after_regSettgt, State.setReg_reg_same]
    rfl
  have hlow := v.le_toInt
  have hhigh := v.toInt_lt
  refine ⟨_, exec_eq_after _ s, ?_, ?_⟩ <;> rw [htarget]
  · exact after_regSettgt u v s
  · exact toInt_toWord _ (by omega) (by omega)

/-- Settles O37: the state `after` names is the one before with the four registers cleared. -/
theorem regResetClearsTheDynamicState : Obligations.RegResetClearsTheDynamicState := by
  intro s u
  refine ⟨_, exec_eq_after _ s, ?_, ?_⟩ <;> rw [after_regReset, State.setReg_reg_same]

/-- Settles O38: the frame of a step, then each clause by the equation of its way through the law. -/
theorem regStepFollowsTheControlLaw : Obligations.RegStepFollowsTheControlLaw := by
  intro s u cur hwf p r err din d half
  have hp : p.wf = true := wf_reg hwf u
  have hmax := toInt_toWord_output hp (outMax_mem hp)
  have hmin := toInt_toWord_output hp (outMin_mem hp)
  obtain ⟨htarget, hprev, hhave, hlast⟩ := regStep_frame p r cur
  have hres : (after (.regStep u cur) s).res = toWord (regStep p r cur).out := rfl
  refine ⟨_, (regStep p r cur).reg, exec_eq_after _ s, rfl, htarget, hprev, hhave, hlast, ?_⟩
  rw [hres]
  refine ⟨fun h => ?_, fun h => ?_, fun hlow hhigh => ⟨?_, fun h => ?_, fun h => ?_,
    fun hdlow hdhigh => ?_⟩⟩
  · rw [regStep_of_largeErr_lt h]
    exact ⟨hmax, rfl, rfl⟩
  · rw [regStep_of_lt_neg_largeErr hp h]
    exact ⟨hmin, rfl, rfl⟩
  · rw [regStep_deriv_of_small_err hlow hhigh, toInt_toWord_regDeriv hp]
    exact regDeriv_eq_max_min hp r cur
  · rw [regStep_of_halfRange_lt hlow hhigh h]
    exact ⟨hmax, rfl⟩
  · rw [regStep_of_lt_neg_halfRange hp hlow hhigh h]
    exact ⟨hmin, rfl⟩
  · rw [regStep_of_normal hlow hhigh hdlow hdhigh]
    simp only [regReturn, toInt_toWord_regIntegral hp, toInt_toWord_regDeriv hp,
      toInt_toWord_regOutput hp]
    exact ⟨regIntegral_eq_max_min hp r cur, regOutput_eq hp r cur⟩

/-- Settles O39: RES is the pattern of an output in range. -/
theorem regStepKeepsItsRanges : Obligations.RegStepKeepsItsRanges := by
  intro s u cur hwf hr
  obtain ⟨hbounded, hout⟩ := regStep_bounded (wf_reg hwf u) hr cur
  refine ⟨_, exec_eq_after _ s, ?_, toWord_output_mem (wf_reg hwf u) hout⟩
  rwa [after_regStep_reg]

/-- Settles O40: every step keeps the configuration and the clamp range. -/
theorem repeatedStepsKeepTheIntegralClamped : Obligations.RepeatedStepsKeepTheIntegralClamped := by
  intro s u cur n hwf hlow hhigh t ht
  have hstep (q : State) (hq : q.cfg = s.cfg ∧ IntegralClamped (s.cfg.reg u) (q.reg u)) :
      (after (.regStep u cur) q).cfg = s.cfg
      ∧ IntegralClamped (s.cfg.reg u) ((after (.regStep u cur) q).reg u) := by
    obtain ⟨hcfg, hmem⟩ := hq
    rw [after_cfg, after_regStep_reg, hcfg]
    exact ⟨rfl, integralClamped_regStep (wf_reg hwf u) _ cur hmem⟩
  obtain ⟨-, hmem⟩ := forall_mem_issues hstep n ⟨rfl, hlow, hhigh⟩ t ht
  exact hmem

end Sys2Proof.Proofs
end

section
/-! PROOFS. The cascade's readings and outputs: which role an address has, what CAS_SENSOR does with a
reading (R301 to R303, R311, R320), and what CAS_GETOUT and CAS_GETABS return (R309, R310). -/

namespace Sys2Proof.Proofs

open Sys2Proof.Machine Sys2Proof.Safety

/-! ### The role of an address -/

theorem radParams_addresses {p : RadParams} (h : p.wf = true) :
    p.feedAddr ≠ p.indoorAddr ∧ p.feedAddr ≠ p.outdoorAddr ∧ p.indoorAddr ≠ p.outdoorAddr := by
  simp only [RadParams.wf, Bool.and_eq_true, decide_eq_true_eq] at h
  simp [h]

theorem boilParams_addresses {p : BoilParams} (h : p.wf = true) :
    p.inletAddr ≠ p.outletAddr ∧ p.inletAddr ≠ p.flueAddr ∧ p.outletAddr ≠ p.flueAddr := by
  simp only [BoilParams.wf, Bool.and_eq_true, decide_eq_true_eq] at h
  simp [h]

section
variable {c : Config} {a : DeviceAddress}

theorem route_feed (ha : a = c.rad.feedAddr) : route c .radiator a = some .feed := if_pos ha

theorem route_indoor (hc : c.rad.wf = true) (ha : a = c.rad.indoorAddr) :
    route c .radiator a = some .indoor := by
  obtain ⟨hfeed, -, -⟩ := radParams_addresses hc
  subst ha
  exact (if_neg hfeed.symm).trans (if_pos rfl)

theorem route_outdoor (hc : c.rad.wf = true) (ha : a = c.rad.outdoorAddr) :
    route c .radiator a = some .outdoor := by
  obtain ⟨-, hfeed, hindoor⟩ := radParams_addresses hc
  subst ha
  exact (if_neg hfeed.symm).trans ((if_neg hindoor.symm).trans (if_pos rfl))

theorem route_radiator_none (hfeed : a ≠ c.rad.feedAddr) (hindoor : a ≠ c.rad.indoorAddr)
    (houtdoor : a ≠ c.rad.outdoorAddr) : route c .radiator a = none :=
  (if_neg hfeed).trans ((if_neg hindoor).trans (if_neg houtdoor))

theorem route_inlet (ha : a = c.boil.inletAddr) : route c .boiler a = some .inlet := if_pos ha

theorem route_outlet (hc : c.boil.wf = true) (ha : a = c.boil.outletAddr) :
    route c .boiler a = some .outlet := by
  obtain ⟨hinlet, -, -⟩ := boilParams_addresses hc
  subst ha
  exact (if_neg hinlet.symm).trans (if_pos rfl)

theorem route_flue (hc : c.boil.wf = true) (ha : a = c.boil.flueAddr) :
    route c .boiler a = some .flue := by
  obtain ⟨-, hinlet, houtlet⟩ := boilParams_addresses hc
  subst ha
  exact (if_neg hinlet.symm).trans ((if_neg houtlet.symm).trans (if_pos rfl))

theorem route_boiler_none (hinlet : a ≠ c.boil.inletAddr) (houtlet : a ≠ c.boil.outletAddr)
    (hflue : a ≠ c.boil.flueAddr) : route c .boiler a = none :=
  (if_neg hinlet).trans ((if_neg houtlet).trans (if_neg hflue))

end

/-! ### CAS_SENSOR -/

theorem toInt_eq_invalid_iff (v : Half) : v.toInt = -32768 ↔ v = invalidTemp :=
  ⟨fun h => BitVec.eq_of_toInt_eq h, fun h => h ▸ rfl⟩

section
variable {s : State} {u : UnitId} {v : Half} {role : Role}

/-- A reading of an address the unit does not know (R303). -/
theorem exec_casSensor_of_unrouted (h : route s.cfg u s.addrIn = none) :
    exec (.casSensor u v) s = .next { s with res := 0#32 } := by
  rw [exec_eq_after, after_casSensor, processSensor, h]
  rfl

/-- The sentinel as a reading of any role (R302). -/
theorem exec_casSensor_of_invalid (h : route s.cfg u s.addrIn = some role) (hv : v.toInt = -32768) :
    exec (.casSensor u v) s = .next { s with res := 2#32 } := by
  have hprocess : processSensor u v s = { state := s, code := 2#32 } := by
    rw [processSensor, h]
    exact if_pos ((toInt_eq_invalid_iff v).mp hv)
  rw [exec_eq_after, after_casSensor, hprocess]
  rfl

/-- A valid reading goes to its role (R301, R303). -/
theorem exec_casSensor_of_valid (h : route s.cfg u s.addrIn = some role) (hv : v.toInt ≠ -32768) :
    exec (.casSensor u v) s
      = .next ((storeReading role v s).state.result (storeReading role v s).code) := by
  have hprocess : processSensor u v s = storeReading role v s := by
    rw [processSensor, h]
    exact if_neg (mt (toInt_eq_invalid_iff v).mpr hv)
  rw [exec_eq_after, after_casSensor, hprocess]

end

/-- A reading of the feed with the fault signature is not stored (R311). -/
theorem storeReading_feed_of_fault {s : State} {v : Half}
    (h : v.toInt = s.cfg.rad.feedFaultValue ∧ s.rad.feed.toInt < s.cfg.rad.feedFaultGuard) :
    storeReading .feed v s = { state := s, code := 2#32 } := if_pos h

theorem storeReading_feed_of_no_fault {s : State} {v : Half}
    (h : v.toInt ≠ s.cfg.rad.feedFaultValue ∨ s.cfg.rad.feedFaultGuard ≤ s.rad.feed.toInt) :
    storeReading .feed v s
      = { state := { s with rad := { s.rad with feed := v, freshFeed := true } }, code := 1#32 } :=
  if_neg fun ⟨hvalue, hguard⟩ => h.elim (absurd hvalue) (not_le.mpr hguard)

/-- Settles O41: the address has at most one role, and what CAS_SENSOR does follows from the role and the
reading. -/
theorem radiatorReadingIsRouted : Obligations.RadiatorReadingIsRouted := by
  intro s v hwf p
  have hp : s.cfg.rad.wf = true := wf_rad hwf
  refine ⟨fun hfeed hindoor houtdoor =>
    exec_casSensor_of_unrouted (route_radiator_none hfeed hindoor houtdoor), ?_, fun hv =>
    ⟨fun ha => ⟨fun hfault => ?_, fun hfault => ?_⟩, fun ha => ?_, fun ha => ?_⟩⟩
  · rintro (ha | ha | ha)
    · exact exec_casSensor_of_invalid (route_feed ha)
    · exact exec_casSensor_of_invalid (route_indoor hp ha)
    · exact exec_casSensor_of_invalid (route_outdoor hp ha)
  · rw [exec_casSensor_of_valid (route_feed ha) hv, storeReading_feed_of_fault hfault]
    rfl
  · rw [exec_casSensor_of_valid (route_feed ha) hv, storeReading_feed_of_no_fault hfault]
    rfl
  · exact exec_casSensor_of_valid (route_indoor hp ha) hv
  · exact exec_casSensor_of_valid (route_outdoor hp ha) hv

/-- Settles O42: the boiler has no fault signature, so each valid reading is stored in its role. -/
theorem boilerReadingIsRouted : Obligations.BoilerReadingIsRouted := by
  intro s v hwf p
  have hp : s.cfg.boil.wf = true := wf_boil hwf
  refine ⟨fun hinlet houtlet hflue =>
    exec_casSensor_of_unrouted (route_boiler_none hinlet houtlet hflue), ?_, fun hv =>
    ⟨fun ha => ?_, fun ha => ?_, fun ha => ?_⟩⟩
  · rintro (ha | ha | ha)
    · exact exec_casSensor_of_invalid (route_inlet ha)
    · exact exec_casSensor_of_invalid (route_outlet hp ha)
    · exact exec_casSensor_of_invalid (route_flue hp ha)
  · exact exec_casSensor_of_valid (route_inlet ha) hv
  · exact exec_casSensor_of_valid (route_outlet hp ha) hv
  · exact exec_casSensor_of_valid (route_flue hp ha) hv

/-! ### CAS_GETOUT and CAS_GETABS -/

/-- The magnitude of an int32, that of -2^31 included, fits an unsigned word (R310). -/
theorem toNat_toWord_iabs (x : Word) : (toWord (iabs x.toInt)).toNat = x.toInt.natAbs := by
  have hlow := x.le_toInt
  have hhigh := x.toInt_lt
  rw [iabs_eq_natAbs, toWord, BitVec.ofInt_natCast, BitVec.toNat_ofNat]
  exact Nat.mod_eq_of_lt (by omega)

/-- Settles O48: RES takes CAS_OUT, or the word of its magnitude. -/
theorem cascadeOutputIsReturned : Obligations.CascadeOutputIsReturned := by
  intro s u
  exact ⟨exec_eq_after _ s, _, exec_eq_after _ s, toNat_toWord_iabs (s.frame u).casOut⟩

end Sys2Proof.Proofs
end

section
/-! PROOFS. A cascade cycle: what its shared frame leaves in exact integers, for both units (R304 to R306,
R308), and the radiator's and the boiler's policies (R312 to R314, R321 to R327). -/

namespace Sys2Proof.Proofs

open Sys2Proof.Machine Sys2Proof.Safety

/-! ### The numbers of a cycle -/

/-- The output of a regulator step on any registers: an int32 whose negation is one too, since a mean of
two int32 numbers truncated toward zero reaches -2^31 only when both are -2^31 (R263). -/
theorem regStep_out_range {p : RegParams} (hp : p.wf = true) (r : Regulator) (cur : Half) :
    -2147483647 ≤ (regStep p r cur).out ∧ (regStep p r cur).out ≤ 2147483647 := by
  obtain ⟨hmin, -, -, hmax⟩ := regParams_outputRange hp
  have hrange := outMax_mem hp
  rcases regStep_cases p r cur with ⟨y, hy, h⟩ | ⟨y, hy, -, -, h⟩ | ⟨-, -, -, -, h⟩ <;> rw [h]
  · dsimp only; omega
  · dsimp only; omega
  · obtain ⟨y, hy, hout⟩ := regOutput_eq hp r cur
    have hlast := r.lastOut.le_toInt
    have hlast' := r.lastOut.toInt_lt
    dsimp only
    rw [hout]
    split
    · have hmean : -2147483647 ≤ tdiv (y + r.lastOut.toInt) 2 :=
        calc (-2147483647 : Int) = Int.tdiv (-4294967295) 2 := by decide
          _ ≤ tdiv (y + r.lastOut.toInt) 2 := Int.tdiv_le_tdiv (by decide) (by omega)
      exact ⟨hmean, tdiv_le_of_le_mul (by omega) (by omega)⟩
    · omega

/-- CAS_OUT reads back the regulator's output or its negation (R306). -/
theorem toInt_toWord_casOut (q : FrameParams) {y : Int} (hlow : -2147483647 ≤ y)
    (hhigh : y ≤ 2147483647) : (toWord (casOut q y)).toInt = casOut q (toWord y).toInt := by
  rw [toInt_toWord y (by omega) hhigh]
  unfold casOut
  split <;> exact toInt_toWord _ (by omega) (by omega)

theorem toInt_toWord_tripOut (q : FrameParams) {p : RegParams} (hp : p.wf = true) :
    (toWord (tripOut q p)).toInt = tripOut q p := by
  obtain ⟨hmin, -, -, hmax⟩ := regParams_outputRange hp
  have hrange := outMax_mem hp
  unfold tripOut
  split <;> exact toInt_toWord _ (by omega) (by omega)

/-- REG_STEP of unit `u` with its TARGET set first: the regulator's part of a cycle that does not trip
(R305). -/
def regStepToward (u : UnitId) (target : Word) (input : Half) (s : State) : State :=
  after (.regStep u input) (s.setReg u { s.reg u with target := target })

theorem regStepToward_reg (u : UnitId) (target : Word) (input : Half) (s : State) :
    (regStepToward u target input s).reg u
      = (regStep (s.cfg.reg u) { s.reg u with target := target } input).reg := by
  rw [regStepToward, after_regStep_reg, State.setReg_reg_same, State.setReg_cfg]

theorem regStepToward_res (u : UnitId) (target : Word) (input : Half) (s : State) :
    (regStepToward u target input s).res
      = toWord (regStep (s.cfg.reg u) { s.reg u with target := target } input).out := by
  rw [regStepToward, after_regStep, State.result_res, State.setReg_reg_same, State.setReg_cfg]

/-- What the frame of unit `u` holds after a cycle from `s` to `t` with `ticks`, the target `target` and
the regulator input `input`, in exact integers (R304 to R306). -/
structure FrameCycle (u : UnitId) (ticks : Nat) (target : Int) (input : Half) (s t : State) : Prop where
  lastTicks : (t.frame u).lastTicks.toNat = ticks
  failCount : (t.frame u).failCount.toNat
    = failUpdate (s.cfg.frame u) (s.frame u).failCount.toNat ticks
  casTarget : (t.frame u).casTarget.toInt = target
  tripped_iff : (t.frame u).tripped = true
    ↔ (s.cfg.frame u).failThreshold < (t.frame u).failCount.toNat
  of_tripped : (t.frame u).tripped = true →
    t.reg u = s.reg u ∧ (t.frame u).casOut.toInt = tripOut (s.cfg.frame u) (s.cfg.reg u)
  of_untripped : (t.frame u).tripped = false →
    t.reg u = (regStepToward u (t.frame u).casTarget input s).reg u
    ∧ (t.frame u).casOut.toInt
        = casOut (s.cfg.frame u) (regStepToward u (t.frame u).casTarget input s).res.toInt

theorem frameCycle_frameStep {s : State} (hwf : s.cfg.wf = true) (u : UnitId) {ticks : Nat}
    (hticks : ticks ≤ 3) (target : Int) (hlow : -2147483648 ≤ target) (hhigh : target ≤ 2147483647)
    (input : Half) : FrameCycle u ticks target input s (frameStep u ticks target input s) := by
  obtain ⟨-, hcount, hlast, htarget, htrip⟩ := frameStep_frame u ticks target input s
  obtain ⟨hsat, -⟩ := frameParams_range (wf_frame hwf u)
  have hle := failUpdate_le (s.cfg.frame u) (s.frame u).failCount.toNat ticks
  have hcountNat : ((frameStep u ticks target input s).frame u).failCount.toNat
      = failUpdate (s.cfg.frame u) (s.frame u).failCount.toNat ticks := by
    rw [hcount, BitVec.toNat_ofNat]
    exact Nat.mod_eq_of_lt (by omega)
  exact
    { lastTicks := by rw [hlast, BitVec.toNat_ofNat]; exact Nat.mod_eq_of_lt (by omega)
      failCount := hcountNat
      casTarget := by rw [htarget]; exact toInt_toWord target hlow hhigh
      tripped_iff := by rw [htrip, hcountNat, trips, decide_eq_true_eq]
      of_tripped := fun h => by
        obtain ⟨hreg, hout⟩ := frameStep_tripped u ticks target input s (htrip ▸ h)
        rw [hout]
        exact ⟨hreg, toInt_toWord_tripOut _ (wf_reg hwf u)⟩
      of_untripped := fun h => by
        obtain ⟨hreg, hout⟩ := frameStep_untripped u ticks target input s (htrip ▸ h)
        obtain ⟨hyLow, hyHigh⟩ := regStep_out_range (wf_reg hwf u)
          { s.reg u with target := toWord target } input
        rw [htarget, regStepToward_reg, regStepToward_res, hreg, hout]
        exact ⟨rfl, toInt_toWord_casOut _ hyLow hyHigh⟩ }

/-- Only the unit's own frame and regulator count. -/
theorem FrameCycle.congr {u : UnitId} {ticks : Nat} {target : Int} {input : Half} {s t q : State}
    (h : FrameCycle u ticks target input s t) (hframe : q.frame u = t.frame u)
    (hreg : q.reg u = t.reg u) : FrameCycle u ticks target input s q := by
  obtain ⟨hlast, hcount, htarget, htrip, htripped, huntripped⟩ := h
  rw [← hframe] at hlast hcount htarget htrip htripped huntripped
  rw [← hreg] at htripped huntripped
  exact ⟨hlast, hcount, htarget, htrip, htripped, huntripped⟩

section
variable {u : UnitId} {s : State}

theorem casStep_res_of_tripped (h : ((after (.casStep u) s).frame u).tripped = true) :
    (after (.casStep u) s).res = 0#32 := by
  rw [after_casStep, State.result_frame] at h
  rw [after_casStep, State.result_res, h]
  rfl

theorem casStep_res_of_untripped (h : ((after (.casStep u) s).frame u).tripped = false) :
    (after (.casStep u) s).res = 1#32 := by
  rw [after_casStep, State.result_frame] at h
  rw [after_casStep, State.result_res, h]
  rfl

end

/-! ### The radiator policy -/

theorem radTarget_eq {p : RadParams} (hp : p.wf = true) (indoor outdoor : Half) :
    radTarget p indoor outdoor = max p.minTemp (min p.maxTemp
      (p.baseZero - Int.tdiv outdoor.toInt p.outdoorK + (p.indoorTarget - indoor.toInt) * p.indoorGain)) := by
  simp only [RadParams.wf, Bool.and_eq_true, decide_eq_true_eq] at hp
  exact clamp_eq_max_min _ _ _ (by simp [hp])

theorem radTarget_range {p : RadParams} (hp : p.wf = true) (indoor outdoor : Half) :
    -32768 ≤ radTarget p indoor outdoor ∧ radTarget p indoor outdoor ≤ 32767 := by
  have heq := radTarget_eq hp indoor outdoor
  simp only [RadParams.wf, isInt16, Bool.and_eq_true, decide_eq_true_eq] at hp
  omega

theorem frameCycle_radiator {s : State} (hwf : s.cfg.wf = true) :
    FrameCycle .radiator (if s.rad.freshFeed then 0 else 1)
      (radTarget s.cfg.rad s.rad.indoor s.rad.outdoor) s.rad.feed s (after (.casStep .radiator) s) := by
  obtain ⟨hlow, hhigh⟩ := radTarget_range (wf_rad hwf) s.rad.indoor s.rad.outdoor
  have hticks : (if s.rad.freshFeed then 0 else 1) ≤ 3 := by split <;> omega
  exact (frameCycle_frameStep hwf .radiator hticks
    (radTarget s.cfg.rad s.rad.indoor s.rad.outdoor) (by omega) (by omega) s.rad.feed).congr rfl rfl

/-- The radiator's inputs after a cycle (R314). -/
theorem after_casStep_rad (s : State) :
    (after (.casStep .radiator) s).rad = { s.rad with
      indoor := toHalf s.cfg.rad.indoorDefault, outdoor := toHalf s.cfg.rad.outdoorDefault,
      freshFeed := false } := by
  rw [after_casStep, cascadeStep_radiator, State.result_rad, radStep, radEndCycle,
    (frameStep_frame .radiator _ _ _ s).1]
  rfl

theorem toInt_toHalf_of_isTemp {v : Int} (h : isTemp v = true) : (toHalf v).toInt = v := by
  simp only [isTemp, isInt16, Bool.and_eq_true, decide_eq_true_eq] at h
  exact toInt_toHalf v (by omega) (by omega)

theorem failUpdate_missing (q : FrameParams) (count : Nat) (fresh : Bool) :
    failUpdate q count (if fresh then 0 else 1) = if fresh then 0 else min (count + 1) q.failSat := by
  cases fresh <;> rfl

/-- Settles O43: the numbers of the frame, then the radiator's end of cycle. -/
theorem radiatorStepFollowsItsPolicy : Obligations.RadiatorStepFollowsItsPolicy := by
  intro s hwf p
  have hcycle := frameCycle_radiator hwf
  obtain ⟨hindoor, houtdoor, -⟩ := radParams_temps (wf_rad hwf)
  have hframe : after (.casStep .radiator) s = { s with
      res := (after (.casStep .radiator) s).res, reg0 := (after (.casStep .radiator) s).reg0,
      frame0 := (after (.casStep .radiator) s).frame0,
      rad := (after (.casStep .radiator) s).rad } := by
    rw [after_casStep, cascadeStep_radiator, radStep_frame]
    rfl
  refine ⟨_, exec_eq_after _ s, hframe, hcycle.lastTicks, ?count, ?target, hcycle.tripped_iff,
    fun h => ?tripped, fun h => ?untripped, ?inputs⟩
  case count => exact hcycle.failCount.trans (failUpdate_missing _ _ _)
  case target => exact hcycle.casTarget.trans (radTarget_eq (wf_rad hwf) _ _)
  case tripped =>
    obtain ⟨hreg, hout⟩ := hcycle.of_tripped h
    exact ⟨casStep_res_of_tripped h, hreg, hout⟩
  case untripped =>
    obtain ⟨hreg, hout⟩ := hcycle.of_untripped h
    exact ⟨casStep_res_of_untripped h, _, exec_eq_after _ _, hreg, hout⟩
  case inputs =>
    rw [after_casStep_rad]
    exact ⟨rfl, toInt_toHalf_of_isTemp hindoor, toInt_toHalf_of_isTemp houtdoor, rfl⟩

end Sys2Proof.Proofs
end

section
/-! PROOFS. The boiler policy: the gap guard, the ticks, the pump-stop condition, the targets and the
average in exact integers, and what a cycle of unit 1 leaves (R321 to R327, R368). -/

namespace Sys2Proof.Proofs

open Sys2Proof.Machine Sys2Proof.Safety

/-! ### The tests of a cycle -/

theorem iabs_eq_abs (v : Int) : iabs v = |v| := by rw [iabs_eq_natAbs, Int.abs_eq_natAbs]

theorem gapGuard_iff (p : BoilParams) (b : Boiler) :
    gapGuard p b = true ↔ p.gapMax < |b.outlet.toInt - b.inlet.toInt| := by
  rw [gapGuard, decide_eq_true_eq, iabs_eq_abs]

/-- The inlet of the cycle, with the guard's test written out (R322). -/
theorem boilInlet_eq_ite (p : BoilParams) (b : Boiler) :
    boilInlet p b = if p.gapMax < |b.outlet.toInt - b.inlet.toInt| then b.outlet else b.inlet := by
  simp only [boilInlet, gapGuard_iff]

/-- The ticks of the cycle, with the guard's test written out (R321, R322). -/
theorem boilTicks_eq_add_ite (p : BoilParams) (b : Boiler) :
    boilTicks p b
      = boilMissTicks p b + (if p.gapMax < |b.outlet.toInt - b.inlet.toInt| then 1 else 0) := by
  simp only [boilTicks, gapGuard_iff]

theorem pumpStop_iff (p : BoilParams) (b : Boiler) :
    pumpStop p b = true ↔ b.outlet.toInt < p.outletMax ∧ boilTicks p b = 0 ∧ b.avgValid = true
      ∧ b.outlet.toInt ≤ b.avg.toInt ∧ |b.outlet.toInt - (boilInlet p b).toInt| ≤ p.nearDelta
      ∧ b.flueValid = true ∧ b.flue.toInt < p.flueFire := by
  simp only [pumpStop, Bool.and_eq_true, decide_eq_true_eq, iabs_eq_abs, and_assoc]

/-! ### The targets and the average -/

theorem boilTarget_of_stop {p : BoilParams} {b : Boiler} (h : pumpStop p b = true) :
    boilTarget p b = max (b.outlet.toInt - p.minDelta) ((boilInlet p b).toInt + p.minDelta) :=
  (if_pos h).trans (imax_eq_max _ _)

theorem boilTarget_of_run {p : BoilParams} {b : Boiler} (h : ¬ pumpStop p b = true) :
    boilTarget p b = max (b.outlet.toInt - p.maxDelta) p.baseTarget :=
  (if_neg h).trans (imax_eq_max _ _)

/-- A target is a sum of two int16 numbers at most, so an int32 (R324). -/
theorem boilTarget_range {p : BoilParams} (hp : p.wf = true) (b : Boiler) :
    -65536 ≤ boilTarget p b ∧ boilTarget p b ≤ 65535 := by
  simp only [BoilParams.wf, isInt16, Bool.and_eq_true, decide_eq_true_eq] at hp
  have houtlet := And.intro b.outlet.le_toInt b.outlet.toInt_lt
  have hinlet := And.intro (boilInlet p b).le_toInt (boilInlet p b).toInt_lt
  by_cases h : pumpStop p b = true
  · rw [boilTarget_of_stop h]; omega
  · rw [boilTarget_of_run h]; omega

/-- The register reads back the average: it lies between two int16 numbers (R31, R326). -/
theorem toInt_avgUpdate {p : BoilParams} (hp : p.wf = true) {b : Boiler} (hvalid : b.avgValid = true)
    (x : Half) :
    (avgUpdate p b x).toInt = Int.tdiv (b.avg.toInt * (p.avgDiv - 1) + x.toInt) p.avgDiv := by
  have hdiv : 1 ≤ p.avgDiv := by
    simp only [BoilParams.wf, Bool.and_eq_true, decide_eq_true_eq] at hp
    omega
  obtain ⟨hlow, hhigh⟩ := tdiv_weightedMean_mem (a := b.avg.toInt) (x := x.toInt) hdiv
  have havg := And.intro b.avg.le_toInt b.avg.toInt_lt
  have hx := And.intro x.le_toInt x.toInt_lt
  rw [avgUpdate, if_pos hvalid]
  exact toInt_toHalf _ (by omega) (by omega)

/-! ### What a cycle leaves -/

theorem frameCycle_boiler {s : State} (hwf : s.cfg.wf = true) :
    FrameCycle .boiler (boilTicks s.cfg.boil s.boil) (boilTarget s.cfg.boil s.boil)
      (boilInlet s.cfg.boil s.boil) s (after (.casStep .boiler) s) := by
  obtain ⟨hlow, hhigh⟩ := boilTarget_range (wf_boil hwf) s.boil
  have hcycle : FrameCycle .boiler _ _ _ s (boilCycleFrame s) :=
    frameCycle_frameStep hwf .boiler (boilTicks_le _ _) (boilTarget s.cfg.boil s.boil) (by omega)
      (by omega) (boilInlet s.cfg.boil s.boil)
  refine hcycle.congr ?_ ?_ <;> rw [after_casStep, cascadeStep_boiler, boilStep_eq]
  · rw [State.result_frame, State.frame_boiler, State.writeAct_frame1, State.frame_boiler]
  · rw [State.result_reg, State.reg_boiler, State.writeAct_reg1, State.reg_boiler]

theorem after_casStep_boil (s : State) :
    (after (.casStep .boiler) s).boil = boilCycleInputs s := by
  rw [after_casStep, cascadeStep_boiler, State.result_boil, boilStep_eq, State.writeAct_boil]

/-- The pump runs after a cycle when the unit tripped or the pump-stop condition fails (R325). -/
theorem after_casStep_pumpOn (s : State) :
    (after (.casStep .boiler) s).boil.pumpOn
      = ((after (.casStep .boiler) s).frame1.tripped || !pumpStop s.cfg.boil s.boil) := by
  rw [after_casStep_boil, after_casStep, cascadeStep_boiler, State.result_frame1, boilStep_eq,
    State.writeAct_frame1]
  rfl

/-- A cycle writes the pump's bit of ACT and no other (R325, R368). -/
theorem after_casStep_act (s : State) :
    (after (.casStep .boiler) s).act
      = setBit s.act s.cfg.act.pump.val (after (.casStep .boiler) s).boil.pumpOn := by
  rw [after_casStep_boil, after_casStep, cascadeStep_boiler, State.result_act, boilStep_eq,
    State.writeAct_act, boilCycleFrame_eq]
  rfl

theorem boilCycleInputs_avg_of_stale {s : State} (h : s.boil.freshOut = false) :
    (boilCycleInputs s).avg = s.boil.avg ∧ (boilCycleInputs s).avgValid = s.boil.avgValid := by
  simp [boilCycleInputs, boilEndCycle, h]

theorem boilCycleInputs_avg_of_fresh {s : State} (h : s.boil.freshOut = true) :
    (boilCycleInputs s).avg = avgUpdate s.cfg.boil s.boil s.boil.outlet
    ∧ (boilCycleInputs s).avgValid = true := by
  simp [boilCycleInputs, boilEndCycle, avgUpdate, h]

/-- The frame of a cycle of unit 1 as the statements write it: the port's value is the one recorded. -/
theorem after_casStep_boiler_frame (s : State) :
    after (.casStep .boiler) s = { s with
      res := (after (.casStep .boiler) s).res, reg1 := (after (.casStep .boiler) s).reg1,
      frame1 := (after (.casStep .boiler) s).frame1, boil := (after (.casStep .boiler) s).boil,
      act := (after (.casStep .boiler) s).act, port := (after (.casStep .boiler) s).port,
      trace := .portWrite (after (.casStep .boiler) s).port :: s.trace } := by
  rw [after_casStep, cascadeStep_boiler, boilStep_frame]
  rfl

/-- Settles O44: each test of the statement is the model's, then the numbers of the frame, the pump's bit
and the boiler's end of cycle. -/
theorem boilerStepFollowsItsPolicy : Obligations.BoilerStepFollowsItsPolicy := by
  intro s hwf p b miss gap inlet ticks stop
  have hp : p.wf = true := wf_boil hwf
  have hgap : gapGuard p b = true ↔ gap := gapGuard_iff p b
  have hinlet : boilInlet p b = inlet := boilInlet_eq_ite p b
  have hticks : boilTicks p b = ticks := boilTicks_eq_add_ite p b
  have hstop : pumpStop p b = true ↔ stop := by rw [pumpStop_iff, hinlet, hticks]
  have hcycle := frameCycle_boiler hwf
  have hpump := after_casStep_pumpOn s
  obtain ⟨hsentinel, -⟩ := boilParams_temps hp
  rw [hticks, hinlet] at hcycle
  refine ⟨_, exec_eq_after _ s, after_casStep_boiler_frame s, hcycle.lastTicks, hcycle.failCount,
    fun h => ?target_stop, fun h => ?target_run, hcycle.tripped_iff, fun h => ?tripped,
    fun h => ?untripped, ?current, ?guard, fun j hj => ?act, rfl, fun h => ?stale, fun h => ?fresh,
    ?inputs⟩
  case target_stop =>
    rw [← hinlet]
    exact hcycle.casTarget.trans (boilTarget_of_stop (hstop.mpr h))
  case target_run => exact hcycle.casTarget.trans (boilTarget_of_run (mt hstop.mp h))
  case tripped =>
    obtain ⟨hreg, hout⟩ := hcycle.of_tripped h
    rw [h] at hpump
    exact ⟨casStep_res_of_tripped h, hreg, hpump, hout⟩
  case untripped =>
    obtain ⟨hreg, hout⟩ := hcycle.of_untripped h
    rw [h] at hpump
    exact ⟨casStep_res_of_untripped h, by rw [hpump, ← hstop]; simp [p, b], _, exec_eq_after _ _, hreg,
      hout⟩
  case act => rw [after_casStep_act, getLsbD_setBit _ _ _ _ hj]
  all_goals rw [after_casStep_boil]
  case current => exact hinlet
  case guard => exact hgap
  case stale => exact boilCycleInputs_avg_of_stale h
  case fresh =>
    obtain ⟨havg, hvalid⟩ := boilCycleInputs_avg_of_fresh h
    rw [havg]
    exact ⟨hvalid, fun hold => if_neg (ne_true_of_eq_false hold),
      fun hold => toInt_avgUpdate hp hold _⟩
  case inputs => exact ⟨toInt_toHalf_of_isTemp hsentinel, rfl, rfl, rfl, rfl, rfl⟩

end Sys2Proof.Proofs
end

section
/-! PROOFS. A unit without readings: its FAIL_COUNT grows by a tick a cycle at least, so the unit trips
after FAIL_THRESHOLD cycles and stays tripped (R316, R331). -/

namespace Sys2Proof.Proofs

open Sys2Proof.Machine Sys2Proof.Safety

/-! ### Runs of one command -/

/-- In a run of one command that takes `P j` to `P (j + 1)`, the `k`-th state comes from one with
`P (j + k)`. -/
theorem exists_pre_of_issues {P : Nat → State → Prop} {i : Instr}
    (hstep : ∀ k q, P k q → P (k + 1) (after i q)) {n j k : Nat} {s t : State} (h : P j s)
    (ht : (issues i n s)[k]? = some t) : ∃ q, P (j + k) q ∧ t = after i q := by
  induction n generalizing j k s with
  | zero => exact nomatch ht
  | succ n ih =>
    cases k with
    | zero => exact ⟨s, h, (Option.some.inj ht).symm⟩
    | succ k =>
      rw [← Nat.succ_add_eq_add_succ]
      exact ih (hstep j s h) ht

/-! ### The tripped output -/

/-- The full-range Down output is a Down output: OUT_MIN < 0 < OUT_MAX (R15, R306). -/
theorem dir_fullRangeDown (d : DirPol) {p : RegParams} (hp : p.wf = true) :
    dir (fullRangeDown d p) = .down := by
  obtain ⟨-, hmin, hmax, -⟩ := regParams_outputRange hp
  have hneg : fullRangeDown d p < 0 := by
    cases d <;> simp only [fullRangeDown] <;> omega
  exact (if_neg (by omega)).trans (if_pos hneg)

theorem casOut_of_tripped {u : UnitId} {ticks : Nat} {target : Int} {input : Half} {s t : State}
    (hwf : s.cfg.wf = true) (hcycle : FrameCycle u ticks target input s t)
    (h : (t.frame u).tripped = true) :
    (t.frame u).casOut.toInt = fullRangeDown (s.cfg.frame u).dirPol (s.cfg.reg u)
    ∧ dir (t.frame u).casOut.toInt = .down := by
  obtain ⟨-, hout⟩ := hcycle.of_tripped h
  have hdown : (t.frame u).casOut.toInt = fullRangeDown (s.cfg.frame u).dirPol (s.cfg.reg u) := hout
  rw [hdown]
  exact ⟨rfl, dir_fullRangeDown _ (wf_reg hwf u)⟩

/-- A cycle with a tick on a count of at least `min k FAIL_SAT` leaves at least the next one (R304). -/
theorem le_failUpdate_of_tick {q : FrameParams} {count ticks k : Nat} (hticks : 0 < ticks)
    (hcount : min k q.failSat ≤ count) : min (k + 1) q.failSat ≤ failUpdate q count ticks := by
  rw [failUpdate, if_neg (by omega)]
  omega

/-! ### The radiator -/

/-- Unit 0 with the configuration `c` after `k` cycles without a reading of the feed. -/
structure RadiatorUnread (c : Config) (k : Nat) (q : State) : Prop where
  cfg : q.cfg = c
  freshFeed : q.rad.freshFeed = false
  failCount : q.frame0.failCount.toNat = min k c.frame0.failSat

/-- A cycle without a reading of the feed is one of one tick (R313). -/
theorem radiatorUnread_step {c : Config} (hwf : c.wf = true) (k : Nat) (q : State)
    (h : RadiatorUnread c k q) : RadiatorUnread c (k + 1) (after (.casStep .radiator) q) := by
  obtain ⟨rfl, hfresh, hcount⟩ := h
  have hcycle := (frameCycle_radiator hwf).failCount
  rw [failUpdate_missing, hfresh] at hcycle
  have hafter : (after (.casStep .radiator) q).frame0.failCount.toNat
      = min (q.frame0.failCount.toNat + 1) q.cfg.frame0.failSat := hcycle
  exact
    { cfg := after_cfg _ q
      freshFeed := by rw [after_casStep_rad]
      failCount := by rw [hafter, hcount]; omega }

/-- Settles O45: after `k + 1` cycles FAIL_COUNT is `min (k + 1) FAIL_SAT`, and FAIL_SAT exceeds
FAIL_THRESHOLD. -/
theorem radiatorTripsAfterTheThreshold : Obligations.RadiatorTripsAfterTheThreshold := by
  intro s n hwf hcount hfresh k t ht
  have hstart : RadiatorUnread s.cfg 0 s := ⟨rfl, hfresh, by simp [hcount]⟩
  obtain ⟨q, hq, rfl⟩ := exists_pre_of_issues (radiatorUnread_step hwf) hstart ht
  have hnext := (radiatorUnread_step hwf _ q hq).failCount
  obtain ⟨hcfg, -, -⟩ := hq
  rw [← hcfg] at hwf hnext ⊢
  obtain ⟨-, hthreshold⟩ := frameParams_range (wf_frame hwf .radiator)
  have hcycle := frameCycle_radiator hwf
  have htrip : (after (.casStep .radiator) q).frame0.tripped = true
      ↔ q.cfg.frame0.failThreshold ≤ k := by
    refine hcycle.tripped_iff.trans ?_
    simp only [State.frame_radiator, hnext, Config.frame] at hthreshold ⊢
    omega
  refine ⟨fun hk => ?_, fun hk => ?_⟩
  · have huntripped := Bool.eq_false_of_not_eq_true (mt htrip.mp (not_le.mpr hk))
    exact ⟨casStep_res_of_untripped huntripped, huntripped⟩
  · have htripped := htrip.mpr hk
    exact ⟨casStep_res_of_tripped htripped, htripped, casOut_of_tripped hwf hcycle htripped⟩

/-! ### The boiler -/

/-- Unit 1 with the configuration `c` after `k` cycles without a reading of the inlet or the outlet. The
gap guard may add ticks, so the count is a lower bound (R322). -/
structure BoilerUnread (c : Config) (k : Nat) (q : State) : Prop where
  cfg : q.cfg = c
  freshIn : q.boil.freshIn = false
  freshOut : q.boil.freshOut = false
  failCount : min k c.frame1.failSat ≤ q.frame1.failCount.toNat

/-- A cycle without a reading has a tick in both ways of counting (R321). -/
theorem boilTicks_pos (p : BoilParams) {b : Boiler} (hin : b.freshIn = false)
    (hout : b.freshOut = false) : 0 < boilTicks p b := by
  have hmiss : 0 < boilMissTicks p b := by
    cases hmode : p.missMode <;> simp [boilMissTicks, boilMissing, hmode, hin, hout]
  exact Nat.add_pos_left hmiss _

theorem boilerUnread_step {c : Config} (hwf : c.wf = true) (k : Nat) (q : State)
    (h : BoilerUnread c k q) : BoilerUnread c (k + 1) (after (.casStep .boiler) q) := by
  obtain ⟨rfl, hin, hout, hcount⟩ := h
  have hafter := (frameCycle_boiler hwf).failCount
  exact
    { cfg := after_cfg _ q
      freshIn := by rw [after_casStep_boil]; rfl
      freshOut := by rw [after_casStep_boil]; rfl
      failCount := (le_failUpdate_of_tick (boilTicks_pos _ hin hout) hcount).trans_eq hafter.symm }

/-- Settles O46: after `k + 1` cycles FAIL_COUNT is at least `min (k + 1) FAIL_SAT`, and FAIL_SAT exceeds
FAIL_THRESHOLD. -/
theorem boilerTripsAfterTheThreshold : Obligations.BoilerTripsAfterTheThreshold := by
  intro s n hwf hcount hin hout k t ht hk
  have hstart : BoilerUnread s.cfg 0 s := ⟨rfl, hin, hout, by simp⟩
  obtain ⟨q, hq, rfl⟩ := exists_pre_of_issues (boilerUnread_step hwf) hstart ht
  have hnext := (boilerUnread_step hwf _ q hq).failCount
  obtain ⟨hcfg, -, -, -⟩ := hq
  rw [← hcfg] at hwf hk hnext ⊢
  obtain ⟨-, hthreshold⟩ := frameParams_range (wf_frame hwf .boiler)
  have hcycle := frameCycle_boiler hwf
  have htripped : (after (.casStep .boiler) q).frame1.tripped = true := by
    refine hcycle.tripped_iff.mpr ?_
    simp only [State.frame_boiler, Config.frame] at hthreshold ⊢
    omega
  obtain ⟨hdown, hdir⟩ := casOut_of_tripped hwf hcycle htripped
  have hpump := after_casStep_pumpOn q
  rw [htripped] at hpump
  exact ⟨casStep_res_of_tripped htripped, htripped, hdown, hdir, hpump⟩

end Sys2Proof.Proofs
end

section
/-! PROOFS. The actuator register and one reading of a SLICE: ACT_SET and ACT_CLR, the bits the two valves'
directions occupy, the hold times, and what a reading does before, at and past the end of a wait (R361 to
R366). -/

namespace Sys2Proof.Proofs

open Sys2Proof.Machine Sys2Proof.Safety

/-! ### ACT_SET and ACT_CLR -/

theorem writeAct_eq (s : State) (a : Byte) :
    s.writeAct a = { s with
      act := a, port := a ^^^ 0xFF#8, trace := .portWrite (a ^^^ 0xFF#8) :: s.trace } := rfl

/-- Settles O49: both commands write ACT with one bit replaced. -/
theorem actSetAndActClrChangeOneBit : Obligations.ActSetAndActClrChangeOneBit := by
  intro s bit
  refine ⟨⟨setBit s.act bit.toNat true, exec_eq_after _ s, fun j hj => ?_⟩,
    ⟨setBit s.act bit.toNat false, exec_eq_after _ s, fun j hj => ?_⟩⟩
  · rw [getLsbD_setBit _ _ _ _ hj]
    by_cases hbit : j = bit.toNat <;> simp [hbit]
  · rw [getLsbD_setBit _ _ _ _ hj]
    by_cases hbit : j = bit.toNat <;> simp [hbit]

/-! ### The directions the two valves show -/

theorem dir_beq_up (v : Int) : (dir v == .up) = decide (0 < v) := by
  unfold dir
  split
  · simp [*]
  · split <;> simp [*]

theorem dir_beq_down (v : Int) : (dir v == .down) = decide (v < 0) := by
  unfold dir
  split
  · have : ¬ v < 0 := by omega
    simp [*]
  · split <;> simp [*]

theorem dir_zero : dir 0 = .stop := rfl

theorem getLsbD_assertDirection_of_ne {c : Config} {u : UnitId} {j : Nat} (hj : j < 8)
    (hup : j ≠ upBit c u) (hdown : j ≠ downBit c u) (d : Direction) (a : Byte) :
    (assertDirection c u d a).getLsbD j = a.getLsbD j := by
  rw [assertDirection, getLsbD_setBit _ _ _ _ hj, if_neg hdown, getLsbD_setBit _ _ _ _ hj, if_neg hup]

/-- A stopped actuator has both its direction bits cleared (R365). -/
theorem getLsbD_assertDirection_stop (c : Config) (u : UnitId) (a : Byte) {j : Nat} (hj : j < 8) :
    (assertDirection c u .stop a).getLsbD j
      = if j = upBit c u ∨ j = downBit c u then false else a.getLsbD j := by
  rw [assertDirection, getLsbD_setBit _ _ _ _ hj, getLsbD_setBit _ _ _ _ hj]
  by_cases hdown : j = downBit c u
  · simp [hdown]
  · by_cases hup : j = upBit c u <;> simp [hdown, hup]

theorem assertDirection_stop_of_clear {c : Config} {u : UnitId} {a : Byte}
    (hup : a.getLsbD (upBit c u) = false) (hdown : a.getLsbD (downBit c u) = false) :
    assertDirection c u .stop a = a := by
  refine BitVec.eq_of_getLsbD_eq fun j hj => ?_
  rw [getLsbD_assertDirection_stop c u a hj]
  split
  · rename_i hbit
    rcases hbit with rfl | rfl
    · exact hup.symm
    · exact hdown.symm
  · rfl

/-- ACT after the first write of SLICE, bit by bit (R365). -/
theorem getLsbD_assertedAct {s : State} (hc : s.cfg.act.wf = true) {j : Nat} (hj : j < 8) :
    (assertedAct s).getLsbD j
      = (if j = s.cfg.act.radUp.val then decide (0 < s.frame0.casOut.toInt)
         else if j = s.cfg.act.radDown.val then decide (s.frame0.casOut.toInt < 0)
         else if j = s.cfg.act.boilUp.val then decide (0 < s.frame1.casOut.toInt)
         else if j = s.cfg.act.boilDown.val then decide (s.frame1.casOut.toInt < 0)
         else s.act.getLsbD j) := by
  obtain ⟨hradUp, hradDown⟩ := assertedAct_drives hc .radiator
  obtain ⟨hboilUp, hboilDown⟩ := assertedAct_drives hc .boiler
  split
  · rename_i hj; exact hj ▸ hradUp.trans (dir_beq_up _)
  split
  · rename_i hj; exact hj ▸ hradDown.trans (dir_beq_down _)
  split
  · rename_i hj; exact hj ▸ hboilUp.trans (dir_beq_up _)
  split
  · rename_i hj; exact hj ▸ hboilDown.trans (dir_beq_down _)
  · rename_i hru hrd hbu hbd
    exact (getLsbD_assertDirection_of_ne (u := .boiler) hj hbu hbd _ _).trans
      (getLsbD_assertDirection_of_ne (u := .radiator) hj hru hrd _ _)

/-! ### The hold times -/

theorem toNat_holdTime (s : State) (u : UnitId) :
    (holdTime s u).toNat = (s.casOutValue u).natAbs :=
  toNat_toWord_iabs (s.frame u).casOut

/-- The actuator stopped first: the shorter hold time, A on a tie (R365). -/
theorem firstStop_eq (s : State) :
    firstStop s = if s.frame0.casOut.toInt.natAbs ≤ s.frame1.casOut.toInt.natAbs
      then .radiator else .boiler := by
  rw [firstStop, toNat_holdTime, toNat_holdTime]
  rfl

/-- The first wait is the shorter hold time (R365). -/
theorem toNat_holdTime_firstStop (s : State) :
    (holdTime s (firstStop s)).toNat
      = min s.frame0.casOut.toInt.natAbs s.frame1.casOut.toInt.natAbs := by
  rw [toNat_holdTime, firstStop_eq]
  split
  · rename_i h; exact (min_eq_left h).symm
  · rename_i h; exact (min_eq_right (Nat.le_of_not_le h)).symm

/-- The second wait is the longer hold time (R365). -/
theorem toNat_holdTime_secondStop (s : State) :
    (holdTime s (otherUnit (firstStop s))).toNat
      = max s.frame0.casOut.toInt.natAbs s.frame1.casOut.toInt.natAbs := by
  rw [toNat_holdTime, firstStop_eq]
  split
  · rename_i h; exact (max_eq_right h).symm
  · rename_i h; exact (max_eq_left (Nat.le_of_not_le h)).symm

/-! ### What is due at a reading -/

/-- A stop is one write of ACT, with the actuator's direction bits cleared (R361, R365). -/
theorem stopActuator_eq_writeAct (u : UnitId) (s : State) :
    stopActuator u s = s.writeAct (assertDirection s.cfg u .stop s.act) := rfl

theorem waitOver_eq_true_iff (t0 c t : Word) :
    waitOver t0 c t = true ↔ t.toNat ≤ (c - t0).toNat := decide_eq_true_iff

/-- Before the end of its wait a SLICE does nothing (R366). -/
theorem sliceSettle_of_waiting {s : State} {p : SliceProgress} (hp : s.slice = some p)
    (hwait : (p.last - p.t0).toNat < (if p.firstStopped then p.tSecond else p.tFirst).toNat) :
    sliceSettle s = s := by
  have hfirst : settleFirst s = s := by
    rw [settleFirst_of_running hp, if_neg]
    cases hstopped : p.firstStopped with
    | true => simp
    | false => simpa [hstopped, waitOver] using hwait
  rw [sliceSettle, hfirst, settleSecond_of_running hp, if_neg]
  cases hstopped : p.firstStopped with
  | true => simpa [hstopped, waitOver] using hwait
  | false => simp

theorem settleFirst_of_due {s : State} {p : SliceProgress} (hp : s.slice = some p)
    (hstopped : p.firstStopped = false) (hdue : p.tFirst.toNat ≤ (p.last - p.t0).toNat) :
    settleFirst s = { stopActuator p.first s with slice := some { p with firstStopped := true } } := by
  rw [settleFirst_of_running hp, if_pos]
  simp [hstopped, (waitOver_eq_true_iff _ _ _).mpr hdue]

theorem settleSecond_of_due {s : State} {p : SliceProgress} (hp : s.slice = some p)
    (hstopped : p.firstStopped = true) (hdue : p.tSecond.toNat ≤ (p.last - p.t0).toNat) :
    settleSecond s
      = State.result { stopActuator (otherUnit p.first) s with slice := none } p.tSecond := by
  rw [settleSecond_of_running hp, if_pos]
  simp [hstopped, (waitOver_eq_true_iff _ _ _).mpr hdue]

/-- At the end of the first wait, and before that of the second, the first actuator stops alone (R365,
R366). -/
theorem sliceSettle_of_first_due {s : State} {p : SliceProgress} (hp : s.slice = some p)
    (hstopped : p.firstStopped = false) (hdue : p.tFirst.toNat ≤ (p.last - p.t0).toNat)
    (hwait : (p.last - p.t0).toNat < p.tSecond.toNat) :
    sliceSettle s = { stopActuator p.first s with slice := some { p with firstStopped := true } } := by
  rw [sliceSettle, settleFirst_of_due hp hstopped hdue, settleSecond_of_running rfl, if_neg]
  simpa [waitOver] using hwait

/-- Past the end of both waits both actuators stop, in order, and the command ends (R365, R366). -/
theorem sliceSettle_of_both_due {s : State} {p : SliceProgress} (hp : s.slice = some p)
    (hstopped : p.firstStopped = false) (hfirst : p.tFirst.toNat ≤ (p.last - p.t0).toNat)
    (hsecond : p.tSecond.toNat ≤ (p.last - p.t0).toNat) :
    sliceSettle s = State.result
      { stopActuator (otherUnit p.first)
          { stopActuator p.first s with slice := some { p with firstStopped := true } } with
        slice := none } p.tSecond := by
  rw [sliceSettle, settleFirst_of_due hp hstopped hfirst,
    settleSecond_of_due (p := { p with firstStopped := true }) rfl rfl hsecond]

/-- At the end of the second wait the second actuator stops and the command ends (R365, R366). -/
theorem sliceSettle_of_second_due {s : State} {p : SliceProgress} (hp : s.slice = some p)
    (hstopped : p.firstStopped = true) (hdue : p.tSecond.toNat ≤ (p.last - p.t0).toNat) :
    sliceSettle s
      = State.result { stopActuator (otherUnit p.first) s with slice := none } p.tSecond := by
  have hfirst : settleFirst s = s := by
    rw [settleFirst_of_running hp, if_neg]
    simp [hstopped]
  rw [sliceSettle, hfirst, settleSecond_of_due hp hstopped hdue]

/-! ### One reading of the counter -/

/-- The SLICE `p` with one more reading of the counter, after an advance by `n` that leaves the inputs
`rest`, and before the stops that are due at it (R366). -/
def readingTaken (s : State) (p : SliceProgress) (n : Nat) (rest : List Input) : State :=
  { s with
    inputs := rest, clock := s.clock + BitVec.ofNat 32 n, clockReads := s.clockReads + 1,
    slice := some { p with last := s.clock + BitVec.ofNat 32 n },
    trace := .clockRead (s.clock + BitVec.ofNat 32 n) :: s.trace }

theorem sliceReading_advanceClock {s : State} {p : SliceProgress} (hp : s.slice = some p) (n : Nat)
    (rest : List Input) :
    sliceReading (State.advanceClock { s with inputs := rest } n)
      = sliceSettle (readingTaken s p n rest) :=
  sliceReading_eq _ p hp

theorem continueSlice_of_ticks {s : State} {n : Nat} {rest : List Input}
    (hin : s.inputs = .ticks n :: rest) :
    continueSlice s = sliceReading (State.advanceClock { s with inputs := rest } n) := by
  simp [continueSlice, hin]

theorem continueSlice_of_no_ticks {s : State} (hin : s.inputs = [] ∨ ∃ a l, s.inputs = .access a :: l) :
    continueSlice s
      = sliceReading (s.advanceClock (Config.freeClockAdvance s.clockReads).toNat) := by
  rcases hin with hin | ⟨a, l, hin⟩ <;> simp [continueSlice, hin]

/-- A step of a SLICE in progress, whatever but a reset stands next: one reading, then the stops that are
due (R110, R366). -/
theorem step_of_readingAdvances {s : State} {p : SliceProgress} {n : Nat} {rest : List Input}
    (hwf : s.cfg.wf = true) (hp : s.slice = some p) (hadv : ReadingAdvances s n rest) :
    step s = .next (sliceSettle (readingTaken s p n rest)) := by
  have hcontinue : continueSlice s = sliceSettle (readingTaken s p n rest) := by
    rcases hadv with hin | ⟨rfl, rfl, hin⟩
    · exact (continueSlice_of_ticks hin).trans (sliceReading_advanceClock hp n rest)
    · exact (continueSlice_of_no_ticks hin).trans (sliceReading_advanceClock hp _ s.inputs)
  rw [step_eq_of_wf s hwf, hp, hcontinue]

/-- Settles O52: the reading is taken and no stop is due. -/
theorem sliceWaitsUntilTheCounterReaches : Obligations.SliceWaitsUntilTheCounterReaches := by
  intro s p n rest hwf hp hadv hwait
  have hread : (readingTaken s p n rest).slice
      = some { p with last := s.clock + BitVec.ofNat 32 n } := rfl
  rw [step_of_readingAdvances hwf hp hadv, sliceSettle_of_waiting hread hwait, readingTaken]

/-- Settles O60: the reading is taken, and the stops due at it are the first, both, or the second. -/
theorem sliceStopsAtTheReadingThatReaches : Obligations.SliceStopsAtTheReadingThatReaches := by
  intro s p n rest hwf hp hadv c d stopped
  have hstep := step_of_readingAdvances hwf hp hadv
  have hread : (readingTaken s p n rest).slice = some { p with last := c } := rfl
  have hstop (u : UnitId) (a : Byte) : stopped u a (assertDirection s.cfg u .stop a) :=
    fun j hj => getLsbD_assertDirection_stop s.cfg u a hj
  refine ⟨fun hstopped hfirst hsecond => ?_, fun hstopped hfirst hsecond => ?_,
    fun hstopped hsecond => ?_, fun hagrees => ?_⟩
  · refine ⟨assertDirection s.cfg p.first .stop s.act, ?_, hstop _ _⟩
    rw [hstep, sliceSettle_of_first_due hread hstopped hfirst hsecond]
    simp only [stopActuator_eq_writeAct, writeAct_eq, readingTaken, c]
  · refine ⟨assertDirection s.cfg p.first .stop s.act, assertDirection s.cfg (otherUnit p.first) .stop
      (assertDirection s.cfg p.first .stop s.act), ?_, hstop _ _, hstop _ _⟩
    rw [hstep, sliceSettle_of_both_due hread hstopped hfirst hsecond]
    simp only [stopActuator_eq_writeAct, writeAct_eq, readingTaken, State.result, c]
  · refine ⟨assertDirection s.cfg (otherUnit p.first) .stop s.act, ?_, hstop _ _⟩
    rw [hstep, sliceSettle_of_second_due hread hstopped hsecond]
    simp only [stopActuator_eq_writeAct, writeAct_eq, readingTaken, State.result, c]
  · simp only [SliceAgrees, hp] at hagrees
    obtain ⟨-, hfirst, -, hsecond, -⟩ := hagrees
    rw [hsecond, hfirst, toNat_holdTime_secondStop]

end Sys2Proof.Proofs
end

section
/-! PROOFS. SLICE from its command to its end: what it starts with, and what it has driven and recorded after
each of its stops, whatever the readings between them (R365 to R367). -/

namespace Sys2Proof.Proofs

open Sys2Proof.Machine Sys2Proof.Safety

/-! ### ACT after each stop -/

/-- The stops a SLICE has made. -/
inductive StopsMade where
  | none
  | first
  | both

/-- ACT after the stops of a SLICE issued in `s` (R365). -/
def StopsMade.act (s : State) : StopsMade → Byte
  | .none => assertedAct s
  | .first => assertDirection s.cfg (firstStop s) .stop (assertedAct s)
  | .both => assertDirection s.cfg (otherUnit (firstStop s)) .stop
      (assertDirection s.cfg (firstStop s) .stop (assertedAct s))

/-- The first stop clears the direction bits of the valve with the shorter hold time, A's on a tie
(R365). -/
theorem getLsbD_act_first (s : State) {j : Nat} (hj : j < 8) :
    (StopsMade.first.act s).getLsbD j
      = if (if s.frame0.casOut.toInt.natAbs ≤ s.frame1.casOut.toInt.natAbs
            then j = s.cfg.act.radUp.val ∨ j = s.cfg.act.radDown.val
            else j = s.cfg.act.boilUp.val ∨ j = s.cfg.act.boilDown.val)
        then false else (StopsMade.none.act s).getLsbD j := by
  refine (getLsbD_assertDirection_stop _ _ _ hj).trans ?_
  rw [firstStop_eq]
  by_cases hshorter : s.frame0.casOut.toInt.natAbs ≤ s.frame1.casOut.toInt.natAbs
  · simp only [if_pos hshorter, upBit, downBit, StopsMade.act]
  · simp only [if_neg hshorter, upBit, downBit, StopsMade.act]

/-- The two stops clear the four direction bits and leave the others as the command found them (R365). -/
theorem getLsbD_act_both {s : State} (hc : s.cfg.act.wf = true) {j : Nat} (hj : j < 8) :
    (StopsMade.both.act s).getLsbD j
      = if j = s.cfg.act.radUp.val ∨ j = s.cfg.act.radDown.val
          ∨ j = s.cfg.act.boilUp.val ∨ j = s.cfg.act.boilDown.val
        then false else s.act.getLsbD j := by
  rw [StopsMade.act, getLsbD_assertDirection_stop _ _ _ hj, getLsbD_assertDirection_stop _ _ _ hj,
    getLsbD_assertedAct hc hj]
  cases firstStop s <;> simp only [otherUnit, upBit, downBit] <;> grind

/-- A stop of a valve that already stands still changes nothing (R365). -/
theorem assertDirection_stop_assertedAct {s : State} (hc : s.cfg.act.wf = true) {u : UnitId}
    (h : s.casOutValue u = 0) : assertDirection s.cfg u .stop (assertedAct s) = assertedAct s := by
  obtain ⟨hup, hdown⟩ := assertedAct_drives hc u
  rw [h, dir_zero] at hup hdown
  exact assertDirection_stop_of_clear hup hdown

/-- With two stopped valves every write of SLICE is of the same value (R365). -/
theorem act_eq_of_stopped {s : State} (hc : s.cfg.act.wf = true) (h : ∀ u, s.casOutValue u = 0)
    (k : StopsMade) : k.act s = assertedAct s := by
  have hstop (u : UnitId) := assertDirection_stop_assertedAct hc (h u)
  cases k with
  | none => rfl
  | first => exact hstop _
  | both => rw [StopsMade.act, hstop, hstop]

/-! ### The command step -/

/-- SLICE up to its first reading: one write of ACT, then the reading (R365). -/
theorem sliceBegin_update (s : State) :
    sliceBegin s = { s with
      act := assertedAct s, port := assertedAct s ^^^ 0xFF#8, slice := some (startOfSlice s),
      clockReads := s.clockReads + 1,
      trace := .clockRead s.clock :: .portWrite (assertedAct s ^^^ 0xFF#8) :: s.trace } := by
  simp only [sliceBegin_eq, writeAct_eq, State.readClock]

/-- The first reading is the start of the schedule: no time has passed (R365). -/
theorem startOfSlice_elapsed (s : State) :
    ((startOfSlice s).last - (startOfSlice s).t0).toNat = 0 := by
  simp [startOfSlice]

/-- With two valves to drive no stop is due at the first reading (R365). -/
theorem sliceSettle_sliceBegin_of_driven {s : State} (hrad : s.frame0.casOut.toInt ≠ 0)
    (hboil : s.frame1.casOut.toInt ≠ 0) : sliceSettle (sliceBegin s) = sliceBegin s := by
  have hwait : 0 < (startOfSlice s).tFirst.toNat := by
    rw [startOfSlice, toNat_holdTime_firstStop]
    omega
  exact sliceSettle_of_waiting (sliceBegin_slice s) ((startOfSlice_elapsed s).trans_lt hwait)

/-- With two stopped valves both stops are due at the first reading (R365). -/
theorem sliceSettle_sliceBegin_of_stopped {s : State} (hrad : s.frame0.casOut.toInt = 0)
    (hboil : s.frame1.casOut.toInt = 0) :
    sliceSettle (sliceBegin s) = { s with
      act := StopsMade.both.act s, port := StopsMade.both.act s ^^^ 0xFF#8,
      res := holdTime s (otherUnit (firstStop s)), slice := none, clockReads := s.clockReads + 1,
      trace := .portWrite (StopsMade.both.act s ^^^ 0xFF#8)
        :: .portWrite (StopsMade.first.act s ^^^ 0xFF#8) :: .clockRead s.clock
        :: .portWrite (StopsMade.none.act s ^^^ 0xFF#8) :: s.trace } := by
  have hfirst : (startOfSlice s).tFirst.toNat = 0 := by
    simp [startOfSlice, toNat_holdTime_firstStop, hrad]
  have hsecond : (startOfSlice s).tSecond.toNat = 0 := by
    simp [startOfSlice, toNat_holdTime_secondStop, hrad, hboil]
  rw [sliceSettle_of_both_due (sliceBegin_slice s) rfl (hfirst.trans_le (Nat.zero_le _))
    (hsecond.trans_le (Nat.zero_le _))]
  simp only [stopActuator_eq_writeAct, writeAct_eq, sliceBegin_update, State.result, StopsMade.act,
    startOfSlice]

/-- Settles O50: with two valves to drive the command leaves the SLICE waiting from its first reading; with
none both stops follow at once and clear nothing more. -/
theorem sliceAssertsBothDirections : Obligations.SliceAssertsBothDirections := by
  intro s hwf
  have hc := wf_act hwf
  rw [exec_eq_after, after_slice]
  refine ⟨fun hrad hboil => ?_, fun hrad hboil => ?_⟩
  · rw [sliceSettle_sliceBegin_of_driven hrad hboil]
    refine ⟨sliceBegin s, startOfSlice s, rfl, ?_, fun j hj => ?_, rfl, rfl, rfl, firstStop_eq s,
      toNat_holdTime_firstStop s, toNat_holdTime_secondStop s⟩
    · rw [sliceBegin_act]
      exact sliceBegin_update s
    · rw [sliceBegin_act]
      exact getLsbD_assertedAct hc hj
  · have hstopped : ∀ u, s.casOutValue u = 0
      | .radiator => hrad
      | .boiler => hboil
    have hact := act_eq_of_stopped hc hstopped
    have hres : holdTime s (otherUnit (firstStop s)) = 0#32 :=
      BitVec.eq_of_toNat_eq (by rw [toNat_holdTime, hstopped]; rfl)
    refine ⟨assertedAct s, ?_, fun j hj => ?_⟩
    · rw [sliceSettle_sliceBegin_of_stopped hrad hboil, hres]
      simp only [hact]
    · rw [← hact .both]
      exact getLsbD_act_both hc hj

/-! ### The whole schedule -/

/-- The progress of a SLICE issued in `s`, `e` ms after its first reading (R365, R366). -/
def progressAt (s : State) (e : Nat) (firstStopped : Bool) : SliceProgress :=
  { startOfSlice s with last := s.clock + BitVec.ofNat 32 e, firstStopped := firstStopped }

/-- Its progress after the stops: none once it has ended (R365). -/
def StopsMade.progress (s : State) (e : Nat) : StopsMade → Option SliceProgress
  | .none => some (progressAt s e false)
  | .first => some (progressAt s e true)
  | .both => Option.none

/-- RES after the stops: the last one ends the command with the longer hold time (R365). -/
def StopsMade.res (s : State) : StopsMade → Word
  | .none | .first => s.res
  | .both => holdTime s (otherUnit (firstStop s))

/-- What the port was written with, latest first (R361, R365). -/
def StopsMade.writes (s : State) : StopsMade → List Byte
  | .none => [StopsMade.none.act s ^^^ 0xFF#8]
  | .first => [StopsMade.first.act s ^^^ 0xFF#8, StopsMade.none.act s ^^^ 0xFF#8]
  | .both => [StopsMade.both.act s ^^^ 0xFF#8, StopsMade.first.act s ^^^ 0xFF#8,
      StopsMade.none.act s ^^^ 0xFF#8]

/-- `t` is `s` with a SLICE issued `e` ms ago that has made the stops `k`, and the inputs `rest`; how often
it has read the counter is left open. -/
def AfterStops (s : State) (k : StopsMade) (e : Nat) (rest : List Input) (t : State) : Prop :=
  ∃ reads trace, t = { s with
      act := k.act s, port := k.act s ^^^ 0xFF#8, res := k.res s, slice := k.progress s e,
      inputs := rest, clock := s.clock + BitVec.ofNat 32 e, clockReads := reads, trace := trace }
    ∧ portWrites trace = k.writes s ++ portWrites s.trace

theorem AfterStops.cfg {s t : State} {k : StopsMade} {e : Nat} {rest : List Input}
    (h : AfterStops s k e rest t) : t.cfg = s.cfg := by
  obtain ⟨_, _, rfl, -⟩ := h
  rfl

theorem AfterStops.slice {s t : State} {k : StopsMade} {e : Nat} {rest : List Input}
    (h : AfterStops s k e rest t) : t.slice = k.progress s e := by
  obtain ⟨_, _, rfl, -⟩ := h
  rfl

theorem AfterStops.inputs {s t : State} {k : StopsMade} {e : Nat} {rest : List Input}
    (h : AfterStops s k e rest t) : t.inputs = rest := by
  obtain ⟨_, _, rfl, -⟩ := h
  rfl

/-- The wait before the last of the stops is over after `e` ms (R366). -/
def StopsMade.Due (s : State) (e : Nat) : StopsMade → Prop
  | .none => True
  | .first => (holdTime s (firstStop s)).toNat ≤ e
  | .both => (holdTime s (otherUnit (firstStop s))).toNat ≤ e

/-- The stops due after `e` ms (R365, R366). -/
def stopsDue (s : State) (e : Nat) : StopsMade :=
  if (holdTime s (otherUnit (firstStop s))).toNat ≤ e then .both
  else if (holdTime s (firstStop s)).toNat ≤ e then .first
  else .none

/-- The first stop is not due after the second (R365). -/
theorem holdTime_firstStop_le (s : State) :
    (holdTime s (firstStop s)).toNat ≤ (holdTime s (otherUnit (firstStop s))).toNat := by
  rw [toNat_holdTime_firstStop, toNat_holdTime_secondStop]
  exact min_le_max

theorem due_stopsDue (s : State) (e : Nat) : (stopsDue s e).Due s e := by
  unfold stopsDue
  split
  · assumption
  split
  · assumption
  · trivial

theorem StopsMade.Due.mono {s : State} {k : StopsMade} {e e' : Nat} (h : k.Due s e) (he : e ≤ e') :
    k.Due s e' := by
  cases k with
  | none => trivial
  | first => exact Nat.le_trans h he
  | both => exact Nat.le_trans h he

theorem progressAt_elapsed (s : State) {e : Nat} (he : e < 2 ^ 32) (b : Bool) :
    ((progressAt s e b).last - (progressAt s e b).t0).toNat = e := by
  simp only [progressAt, startOfSlice]
  rw [BitVec.add_comm, BitVec.add_sub_cancel, BitVec.toNat_ofNat, Nat.mod_eq_of_lt he]

/-- At the end of the second wait both stops are due (R365, R366). -/
theorem stopsDue_of_second {s : State} {e : Nat}
    (h : (holdTime s (otherUnit (firstStop s))).toNat ≤ e) : stopsDue s e = .both := if_pos h

theorem portWrites_portWrite (v : Byte) (tr : List Event) :
    portWrites (.portWrite v :: tr) = v :: portWrites tr := rfl

/-- The first stop, once it is due (R365). -/
theorem AfterStops.stopFirst {s t : State} {e : Nat} {l : List Input} (h : AfterStops s .none e l t) :
    AfterStops s .first e l
      { stopActuator (firstStop s) t with slice := some (progressAt s e true) } := by
  obtain ⟨reads, trace, rfl, hwrites⟩ := h
  refine ⟨reads, .portWrite (StopsMade.first.act s ^^^ 0xFF#8) :: trace, ?_, ?_⟩
  · simp only [stopActuator_eq_writeAct, writeAct_eq, StopsMade.act, StopsMade.res, StopsMade.progress]
  · rw [portWrites_portWrite, hwrites]
    rfl

/-- The second stop, once it is due, with the end of the command (R365). -/
theorem AfterStops.stopSecond {s t : State} {e : Nat} {l : List Input} (h : AfterStops s .first e l t) :
    AfterStops s .both e l (State.result
      { stopActuator (otherUnit (firstStop s)) t with slice := none }
      (holdTime s (otherUnit (firstStop s)))) := by
  obtain ⟨reads, trace, rfl, hwrites⟩ := h
  refine ⟨reads, .portWrite (StopsMade.both.act s ^^^ 0xFF#8) :: trace, ?_, ?_⟩
  · simp only [stopActuator_eq_writeAct, writeAct_eq, State.result, StopsMade.act, StopsMade.res,
      StopsMade.progress]
  · rw [portWrites_portWrite, hwrites]
    rfl

/-- What is due of a SLICE that has made no stop: none, one or both, in order (R365, R366). -/
theorem afterStops_sliceSettle_none {s t : State} {e : Nat} {l : List Input} (he : e < 2 ^ 32)
    (h : AfterStops s .none e l t) : AfterStops s (stopsDue s e) e l (sliceSettle t) := by
  have helapsed := progressAt_elapsed s he false
  unfold stopsDue
  split
  · rename_i hsecond
    have hfirst := (holdTime_firstStop_le s).trans hsecond
    rw [← helapsed] at hfirst hsecond
    rw [sliceSettle_of_both_due h.slice rfl hfirst hsecond]
    exact h.stopFirst.stopSecond
  split
  · rename_i hsecond hfirst
    rw [← helapsed] at hfirst hsecond
    rw [sliceSettle_of_first_due h.slice rfl hfirst (Nat.lt_of_not_le hsecond)]
    exact h.stopFirst
  · rename_i hfirst
    rw [← helapsed] at hfirst
    rw [sliceSettle_of_waiting h.slice (Nat.lt_of_not_le hfirst)]
    exact h

/-- What is due of a SLICE that has made its first stop: the second, or nothing yet (R365, R366). -/
theorem afterStops_sliceSettle_first {s t : State} {e : Nat} {l : List Input} (he : e < 2 ^ 32)
    (hfirst : (holdTime s (firstStop s)).toNat ≤ e) (h : AfterStops s .first e l t) :
    AfterStops s (stopsDue s e) e l (sliceSettle t) := by
  have helapsed := progressAt_elapsed s he true
  unfold stopsDue
  rw [if_pos hfirst]
  split
  · rename_i hsecond
    rw [← helapsed] at hsecond
    rw [sliceSettle_of_second_due h.slice rfl hsecond]
    exact h.stopSecond
  · rename_i hsecond
    rw [← helapsed] at hsecond
    rw [sliceSettle_of_waiting h.slice (Nat.lt_of_not_le hsecond)]
    exact h

/-- The command step: the stops due at the first reading are made at once (R365). -/
theorem afterStops_begin (s : State) (rest : List Input) :
    AfterStops s (stopsDue s 0) 0 rest (after .slice { s with inputs := rest }) := by
  rw [after_slice]
  refine afterStops_sliceSettle_none (by decide) ⟨s.clockReads + 1,
    .clockRead s.clock :: .portWrite (StopsMade.none.act s ^^^ 0xFF#8) :: s.trace, ?_, rfl⟩
  simp only [sliceBegin_update, StopsMade.progress, progressAt, BitVec.add_zero]
  rfl

theorem add_ofNat_add_ofNat (c : Word) (e n : Nat) :
    c + BitVec.ofNat 32 e + BitVec.ofNat 32 n = c + BitVec.ofNat 32 (e + n) := by
  rw [BitVec.add_assoc, ← BitVec.ofNat_add]

/-- One more reading of a SLICE that has not ended, before the stops due at it (R366). -/
theorem AfterStops.readingTaken {s t : State} {k : StopsMade} {e : Nat} {l : List Input}
    {p : SliceProgress} (h : AfterStops s k e l t) (hp : t.slice = some p) (n : Nat)
    (rest : List Input) : AfterStops s k (e + n) rest (readingTaken t p n rest) := by
  obtain ⟨reads, trace, rfl, hwrites⟩ := h
  refine ⟨reads + 1, .clockRead (s.clock + BitVec.ofNat 32 e + BitVec.ofNat 32 n) :: trace, ?_,
    hwrites⟩
  cases k with
  | none | first =>
    obtain rfl := Option.some.inj hp
    simp only [Proofs.readingTaken, StopsMade.progress, progressAt, add_ofNat_add_ofNat]
  | both => exact nomatch hp

/-- After the last stop the counter advances and nothing more happens (R412). -/
theorem AfterStops.advanceClock {s t : State} {e : Nat} {l : List Input}
    (h : AfterStops s .both e l t) (n : Nat) (rest : List Input) :
    AfterStops s .both (e + n) rest (State.advanceClock { t with inputs := rest } n) := by
  obtain ⟨reads, trace, rfl, hwrites⟩ := h
  refine ⟨reads, trace, ?_, hwrites⟩
  simp only [State.advanceClock, StopsMade.progress, add_ofNat_add_ofNat]

theorem step_ticks_of_idle {s : State} {n : Nat} {rest : List Input} (hwf : s.cfg.wf = true)
    (hs : s.slice = none) (hin : s.inputs = .ticks n :: rest) :
    step s = .next (State.advanceClock { s with inputs := rest } n) := by
  simp [step_eq_of_wf s hwf, hs, takeInput, hin]

/-- One step of the schedule: the counter advances by `n` ms and the stops due by then are made; when the
SLICE has ended, the counter only advances (R366, R412). -/
theorem afterStops_step {s t : State} {e n : Nat} {rest : List Input} (hwf : s.cfg.wf = true)
    (hen : e + n < 2 ^ 32) (h : AfterStops s (stopsDue s e) e (.ticks n :: rest) t) :
    ∃ t', step t = .next t' ∧ AfterStops s (stopsDue s (e + n)) (e + n) rest t' := by
  have hdue := (due_stopsDue s e).mono (Nat.le_add_right e n)
  have hwf' : t.cfg.wf = true := h.cfg ▸ hwf
  cases hk : stopsDue s e with
  | none =>
    rw [hk] at h
    exact ⟨_, step_of_readingAdvances hwf' h.slice (.inl h.inputs),
      afterStops_sliceSettle_none hen (h.readingTaken h.slice n rest)⟩
  | first =>
    rw [hk] at h hdue
    exact ⟨_, step_of_readingAdvances hwf' h.slice (.inl h.inputs),
      afterStops_sliceSettle_first hen hdue (h.readingTaken h.slice n rest)⟩
  | both =>
    rw [hk] at h hdue
    rw [stopsDue_of_second hdue]
    exact ⟨_, step_ticks_of_idle hwf' h.slice h.inputs, h.advanceClock n rest⟩

theorem run_succ_of_step {s t : State} (h : step s = .next t) (k : Nat) :
    Host.Core.run Sys2Proof.core (k + 1) s = Host.Core.run Sys2Proof.core k t := by
  have hcore : Sys2Proof.core.step s = .next t := h
  simp only [Host.Core.run, hcore]

/-- Settles O51: the command and the two waits of its schedule are three steps, and at the end of the
second wait both stops have been made. -/
theorem sliceRunsItsSchedule : Obligations.SliceRunsItsSchedule := by
  intro s rest hwf hs hfault tA tB hin
  have hc := wf_act hwf
  have hlong : (holdTime s (otherUnit (firstStop s))).toNat = max tA tB := toNat_holdTime_secondStop s
  have hmax : 0 + min tA tB + (max tA tB - min tA tB) = max tA tB := by omega
  have hbound : max tA tB < 2 ^ 32 := hlong ▸ BitVec.isLt _
  have hbound' : 0 + min tA tB < 2 ^ 32 := by omega
  have hdecode : decode 0x00000042#32 = .ok .slice := decodeReadsBackEveryEncoding .slice
  have hcommand := stepRunsTheDecodedCommand s _ _ _ hwf hs hfault hin hdecode
  rw [exec_eq_after] at hcommand
  obtain ⟨t₁, hstep₁, h₁⟩ := afterStops_step hwf hbound' (afterStops_begin s _)
  obtain ⟨t₂, hstep₂, h₂⟩ := afterStops_step hwf (hmax.trans_lt hbound) h₁
  rw [hmax, stopsDue_of_second hlong.le] at h₂
  have hrun : Host.Core.run Sys2Proof.core 3 s = .next t₂ :=
    (run_succ_of_step hcommand 2).trans ((run_succ_of_step hstep₁ 1).trans (run_succ_of_step hstep₂ 0))
  have hres : holdTime s (otherUnit (firstStop s)) = BitVec.ofNat 32 (max tA tB) := by
    rw [← hlong, BitVec.ofNat_toNat, BitVec.setWidth_eq]
  obtain ⟨reads, trace, rfl, hwrites⟩ := h₂
  refine ⟨_, StopsMade.none.act s, StopsMade.first.act s, StopsMade.both.act s, hrun, ?_, hwrites,
    fun j hj => ⟨getLsbD_assertedAct hc hj, getLsbD_act_first s hj, getLsbD_act_both hc hj⟩⟩
  rw [hs, ← hres]
  rfl

end Sys2Proof.Proofs
end

section
/-! PROOFS. Faults (R400 to R408): what raises one, what a faulted block still does, and that no command
faults once it has begun; and the idle block (R418). -/

namespace Sys2Proof.Proofs

open Sys2Proof.Machine Sys2Proof.Safety

/-! ### The idle block -/

/-- A block with no SLICE in progress takes the world's next input (R110). -/
theorem step_of_no_slice {s : State} (hwf : s.cfg.wf = true) (hs : s.slice = none) :
    step s = takeInput s := by
  rw [step_eq_of_wf s hwf, hs]

theorem takeInput_of_no_input {s : State} (hin : s.inputs = []) : takeInput s = .next s := by
  simp [takeInput, hin]

/-- Settles O17: the block takes the next input, and there is none. -/
theorem idleBlockKeepsItsState : Obligations.IdleBlockKeepsItsState :=
  fun _ hwf hs hin => (step_of_no_slice hwf hs).trans (takeInput_of_no_input hin)

/-! ### The faulted block -/

/-- A faulted block accepts a write of a writable word and does nothing (R406). -/
theorem writeReg_of_faulted {s : State} (h : s.status.fault = true) (r : WritableReg) (v : Word) :
    writeReg r v s = .next s := by
  cases r with
  | cmd => simp [writeReg, issue, h]
  | addrInLo | addrInHi => simp [writeReg, h]

/-- No write at all changes a faulted block: a second fault keeps the first one's code (R401, R406). -/
theorem performAccess_write_of_faulted {s : State} (h : s.status.fault = true) (width offset : Nat)
    (v : Word) : performAccess (.write width offset v) s = .next s := by
  rw [performAccess_write_eq]
  cases writeTarget width offset with
  | none => exact congrArg _ (raiseFault_of_faulted .accessFault s h)
  | some r => exact writeReg_of_faulted h r v

/-- A read of a faulted block changes the read data only, whether it names a word or not (R106, R401). -/
theorem hostRead_of_faulted {s : State} (h : s.status.fault = true) (width offset : Nat) :
    ∃ v, hostRead width offset s = { s with readData := v } := by
  cases hword : readWord width offset s with
  | some v => exact ⟨v, hostRead_of_readWord width offset v s hword⟩
  | none => exact ⟨0#32, by rw [hostRead_of_no_word width offset s hword, raiseFault_of_faulted _ s h]⟩

/-- A host write that stands first is taken, and a faulted block stays as it is (R406). -/
theorem step_write_of_faulted {s : State} {width offset : Nat} {v : Word} {rest : List Input}
    (hwf : s.cfg.wf = true) (hs : s.slice = none) (hfault : s.status.fault = true)
    (hin : s.inputs = .access (.write width offset v) :: rest) :
    step s = .next { s with inputs := rest } :=
  (step_access hwf hs hin).trans
    (performAccess_write_of_faulted (s := { s with inputs := rest }) hfault width offset v)

/-- A host read that stands first is taken, and a faulted block changes the read data only (R106). -/
theorem step_read_of_faulted {s : State} {width offset : Nat} {rest : List Input}
    (hwf : s.cfg.wf = true) (hs : s.slice = none) (hfault : s.status.fault = true)
    (hin : s.inputs = .access (.read width offset) :: rest) :
    ∃ v, step s = .next { s with inputs := rest, readData := v } := by
  obtain ⟨v, hread⟩ := hostRead_of_faulted (s := { s with inputs := rest }) hfault width offset
  exact ⟨v, (step_access hwf hs hin).trans (congrArg _ hread)⟩

/-- Settles O13: no write changes a faulted block, whatever it names. -/
theorem faultedBlockRefusesWrites : Obligations.FaultedBlockRefusesWrites :=
  fun _ _ _ _ hwf hs hfault hin _ => step_write_of_faulted hwf hs hfault hin

/-- Settles O14, by the input that stands first: none and a write change nothing, a read the read data,
ticks the counter. -/
theorem onlyResetLeavesTheFaultedState : Obligations.OnlyResetLeavesTheFaultedState := by
  intro s t hfault hs hreset hstep
  obtain ⟨hwf, -⟩ := step_cases hstep
  have eq_of_step {t' : State} (h : step s = .next t') : t = t' :=
    Host.Outcome.next.inj (hstep.symm.trans h)
  cases hin : s.inputs with
  | nil => rw [eq_of_step (idleBlockKeepsItsState s hwf hs hin)]
  | cons input rest =>
    cases input with
    | reset => exact absurd hin (hreset rest)
    | ticks n => rw [eq_of_step (step_ticks_of_idle hwf hs hin)]; rfl
    | access a =>
      cases a with
      | read width offset =>
        obtain ⟨v, hread⟩ := step_read_of_faulted hwf hs hfault hin
        rw [eq_of_step hread]
      | write width offset v => rw [eq_of_step (step_write_of_faulted hwf hs hfault hin)]

/-! ### IllegalCommand -/

theorem exists_decode_error_of_no_row {w : Word} (h : ∀ row ∈ matchMaskRows, w &&& row.2 ≠ row.1) :
    ∃ e, decode w = .error e := by
  cases hdecode : decode w with
  | error e => exact ⟨e, rfl⟩
  | ok i =>
    obtain ⟨row, hrow, hmatch⟩ := (exists_decode_iff_exists_row w).mp ⟨i, hdecode⟩
    exact absurd hmatch (h row hrow)

theorem issue_of_decode_error {w : Word} {e : DecodeError} {s : State} (hfault : s.status.fault = false)
    (h : decode w = .error e) : issue w s = .next { s with
      status := { s.status with fault := true, faultCode := .illegalCommand } } := by
  simp [issue, raiseFault, hfault, h]

/-- Settles O7: a word that matches no row is rejected by the decoder, whatever the reason, and its issue
raises the fault. -/
theorem wordOutsideTheTableRaisesIllegalCommand :
    Obligations.WordOutsideTheTableRaisesIllegalCommand := by
  intro s w rest hwf hs hfault hin hrows
  obtain ⟨e, hdecode⟩ := exists_decode_error_of_no_row hrows
  calc step s
    _ = performAccess (.write 32 0x000 w) { s with inputs := rest } := step_access hwf hs hin
    _ = issue w { s with inputs := rest } := performAccess_write_cmd w _
    _ = .next _ := issue_of_decode_error hfault hdecode

/-! ### AccessFault -/

theorem accessShapeOk_iff {width offset : Nat} :
    accessShapeOk width offset = true ↔ width = 32 ∧ offset % 4 = 0 := by
  simp [accessShapeOk]

theorem mem_registerMap_of_regAt {o : Nat} {r : HostReg} (h : regAt o = some r) :
    (o, r) ∈ registerMap := by
  obtain ⟨⟨o', r'⟩, hfind, rfl⟩ := Option.map_eq_some_iff.mp h
  obtain rfl : o' = o := by simpa using List.find?_some hfind
  exact List.mem_of_find?_eq_some hfind

theorem mappedOffset_of_regAt {o : Nat} {r : HostReg} (h : regAt o = some r) : mappedOffset o := by
  have hall : ∀ e ∈ registerMap, mappedOffset e.1 := by decide
  exact hall _ (mem_registerMap_of_regAt h)

theorem writableOffset_of_regAt {o : Nat} {r : HostReg} (h : regAt o = some r)
    (hr : (writable r).isSome = true) : writableOffset o := by
  have hall : ∀ e ∈ registerMap, (writable e.2).isSome = true → writableOffset e.1 := by decide
  exact hall _ (mem_registerMap_of_regAt h) hr

/-- A read that names a word is a 32-bit one of a mapped word other than CMD (R101, R103, R105). -/
theorem shape_of_readWord {width offset : Nat} {s : State} {v : Word}
    (h : readWord width offset s = some v) : width = 32 ∧ mappedOffset offset ∧ offset ≠ 0x000 := by
  obtain ⟨hshape, hword⟩ := Option.ite_none_right_eq_some.mp h
  obtain ⟨r, hr, hread⟩ := Option.bind_eq_some_iff.mp hword
  refine ⟨(accessShapeOk_iff.mp hshape).1, mappedOffset_of_regAt hr, ?_⟩
  rintro rfl
  obtain rfl : HostReg.cmd = r := Option.some.inj hr
  exact nomatch hread

/-- A write that names a word is a 32-bit one of CMD or of a half of ADDR_IN (R101, R105). -/
theorem shape_of_writeTarget {width offset : Nat} {r : WritableReg}
    (h : writeTarget width offset = some r) : width = 32 ∧ writableOffset offset := by
  obtain ⟨hshape, hword⟩ := Option.ite_none_right_eq_some.mp h
  obtain ⟨q, hq, hwritable⟩ := Option.bind_eq_some_iff.mp hword
  exact ⟨(accessShapeOk_iff.mp hshape).1, writableOffset_of_regAt hq (by rw [hwritable]; rfl)⟩

theorem readWord_eq_none {width offset : Nat}
    (h : width ≠ 32 ∨ ¬ mappedOffset offset ∨ offset = 0x000) (s : State) :
    readWord width offset s = none := by
  refine Option.eq_none_iff_forall_ne_some.mpr fun v hv => ?_
  obtain ⟨hwidth, hmapped, hcmd⟩ := shape_of_readWord hv
  rcases h with h | h | h <;> contradiction

theorem writeTarget_eq_none {width offset : Nat} (h : width ≠ 32 ∨ ¬ writableOffset offset) :
    writeTarget width offset = none := by
  refine Option.eq_none_iff_forall_ne_some.mpr fun r hr => ?_
  obtain ⟨hwidth, hwritable⟩ := shape_of_writeTarget hr
  rcases h with h | h <;> contradiction

/-- Settles O8: such an access names no word, and then the step raises the fault. -/
theorem accessToNoWordRaisesAccessFault : Obligations.AccessToNoWordRaisesAccessFault := by
  refine ⟨fun s width offset rest hwf hs hin hshape => ?_,
    fun s width offset v rest hwf hs hin hshape => ?_⟩
  · have hword := readWord_eq_none hshape { s with inputs := rest }
    rw [step_access hwf hs hin, performAccess, hostRead_of_no_word width offset _ hword, raiseFault_eq]
  · rw [step_access hwf hs hin, performAccess_write_eq, writeTarget_eq_none hshape, raiseFault_eq]

/-! ### Commands raise no fault -/

/-- No command writes FAULT, FAULT_CODE or ADDR_IN (R34, R400). -/
theorem after_fault_addrIn (i : Instr) (s : State) :
    (after i s).status.fault = s.status.fault ∧ (after i s).status.faultCode = s.status.faultCode
    ∧ (after i s).addrIn = s.addrIn := by
  cases i with
  | srchNext => rw [after_srchNext, (searchFrame_searchNext s).eq]; exact ⟨rfl, rfl, rfl⟩
  | casSensor u v => rw [after_casSensor, processSensor_frame]; exact ⟨rfl, rfl, rfl⟩
  | casStep u =>
    cases u with
    | radiator => rw [after_casStep, cascadeStep_radiator, radStep_frame]; exact ⟨rfl, rfl, rfl⟩
    | boiler => rw [after_casStep, cascadeStep_boiler, boilStep_frame]; exact ⟨rfl, rfl, rfl⟩
  | slice => rw [after_slice, (sliceFrame_slice s).eq]; exact ⟨rfl, rfl, rfl⟩
  | regSettgt u v | regStep u v | regReset u => simp
  | _ => exact ⟨rfl, rfl, rfl⟩

/-- Settles O19: a command runs to the state `after` names, which keeps all four. -/
theorem noCommandFaultsOnceBegun : Obligations.NoCommandFaultsOnceBegun := by
  intro i s
  obtain ⟨hfault, hcode, haddr⟩ := after_fault_addrIn i s
  exact ⟨after i s, exec_eq_after i s, hfault, hcode, after_cfg i s, haddr⟩

end Sys2Proof.Proofs
end

section
/-! PROOFS. The units are not coupled: each command that writes registers of a unit names that unit (R303,
R308, R416). -/

namespace Sys2Proof.Proofs

open Sys2Proof.Machine Sys2Proof.Safety

/-! ### The registers of one unit -/

/-- The registers of unit `u` are the same in both states: its regulator, its frame and its inputs (R39 to
R42). -/
def SameUnit (u : UnitId) (s t : State) : Prop :=
  match u with
  | .radiator => t.reg0 = s.reg0 ∧ t.frame0 = s.frame0 ∧ t.rad = s.rad
  | .boiler => t.reg1 = s.reg1 ∧ t.frame1 = s.frame1 ∧ t.boil = s.boil

theorem sameUnit_refl (u : UnitId) (s : State) : SameUnit u s s := by
  cases u <;> exact ⟨rfl, rfl, rfl⟩

/-- A command's result is no register of a unit (R19). -/
theorem sameUnit_result {u : UnitId} {s t : State} (h : SameUnit u s t) (v : Word) :
    SameUnit u s (t.result v) := by
  cases u <;> exact h

theorem eq_otherUnit_of_ne : ∀ {u w : UnitId}, u ≠ w → u = otherUnit w
  | .radiator, .boiler, _ | .boiler, .radiator, _ => rfl
  | .radiator, .radiator, h | .boiler, .boiler, h => absurd rfl h

theorem sameUnit_setReg (w : UnitId) (s : State) (r : Regulator) :
    SameUnit (otherUnit w) s (s.setReg w r) := by
  cases w <;> exact ⟨rfl, rfl, rfl⟩

/-! ### Readings and cycles of the other unit -/

/-- The unit whose input a role is (R311, R320). -/
def roleUnit : Role → UnitId
  | .feed | .indoor | .outdoor => .radiator
  | .inlet | .outlet | .flue => .boiler

/-- An address is routed to a role of the unit it was sent to (R301). -/
theorem roleUnit_of_route {c : Config} {u : UnitId} {a : DeviceAddress} {role : Role}
    (h : route c u a = some role) : roleUnit role = u := by
  cases u with
  | radiator | boiler =>
    simp only [route] at h
    split_ifs at h <;> obtain rfl := Option.some.inj h <;> rfl

theorem sameUnit_storeReading (role : Role) (v : Half) (s : State) :
    SameUnit (otherUnit (roleUnit role)) s (storeReading role v s).state := by
  cases role with
  | feed => simp only [storeReading]; split <;> exact ⟨rfl, rfl, rfl⟩
  | _ => exact ⟨rfl, rfl, rfl⟩

/-- A reading sent to one unit keeps the registers of the other (R303). -/
theorem sameUnit_processSensor (w : UnitId) (v : Half) (s : State) :
    SameUnit (otherUnit w) s (processSensor w v s).state := by
  unfold processSensor
  split
  · exact sameUnit_refl _ s
  · rename_i role hroute
    split
    · exact sameUnit_refl _ s
    · obtain rfl := roleUnit_of_route hroute
      exact sameUnit_storeReading role v s

/-- A cascade cycle of one unit keeps the registers of the other (R308). -/
theorem sameUnit_cascadeStep (w : UnitId) (s : State) :
    SameUnit (otherUnit w) s (cascadeStep w s) := by
  cases w with
  | radiator => rw [cascadeStep_radiator, radStep_frame]; exact ⟨rfl, rfl, rfl⟩
  | boiler => rw [cascadeStep_boiler, boilStep_frame]; exact ⟨rfl, rfl, rfl⟩

/-! ### Commands -/

/-- A command keeps the registers of a unit unless it is one of the five writers and names that unit
(R416). -/
theorem sameUnit_after {i : Instr} {u : UnitId} (s : State) (hsettgt : ∀ v, i ≠ .regSettgt u v)
    (hstep : ∀ v, i ≠ .regStep u v) (hreset : i ≠ .regReset u) (hsensor : ∀ v, i ≠ .casSensor u v)
    (hcas : i ≠ .casStep u) : SameUnit u s (after i s) := by
  cases i with
  | regSettgt w v =>
    obtain rfl := eq_otherUnit_of_ne fun hw : u = w => hsettgt v (hw ▸ rfl)
    exact sameUnit_setReg w s _
  | regStep w v =>
    obtain rfl := eq_otherUnit_of_ne fun hw : u = w => hstep v (hw ▸ rfl)
    exact sameUnit_result (sameUnit_setReg w s _) _
  | regReset w =>
    obtain rfl := eq_otherUnit_of_ne fun hw : u = w => hreset (hw ▸ rfl)
    exact sameUnit_setReg w s _
  | casSensor w v =>
    obtain rfl := eq_otherUnit_of_ne fun hw : u = w => hsensor v (hw ▸ rfl)
    exact sameUnit_result (sameUnit_processSensor w v s) _
  | casStep w =>
    obtain rfl := eq_otherUnit_of_ne fun hw : u = w => hcas (hw ▸ rfl)
    exact sameUnit_result (sameUnit_cascadeStep w s) _
  | srchNext =>
    rw [after_srchNext, (searchFrame_searchNext s).eq]
    exact sameUnit_refl u s
  | slice =>
    rw [after_slice, (sliceFrame_slice s).eq]
    exact sameUnit_refl u s
  | _ => exact sameUnit_refl u s

/-- Settles O57: the five writers keep the registers of the unit they do not name, and every other
command's frame leaves both units out. -/
theorem unitsDoNotInterfere : Obligations.UnitsDoNotInterfere := by
  intro i s t h
  obtain rfl := eq_after_of_exec h
  exact ⟨sameUnit_after (u := .radiator) s, sameUnit_after (u := .boiler) s⟩

end Sys2Proof.Proofs
end

section
/-! PROOFS. Reset (R440, R441): its table of values, the step that takes it, and the invariant right after
it. -/

namespace Sys2Proof.Proofs

open Sys2Proof.Machine Sys2Proof.Safety

/-! ### The table of reset values -/

/-- The machine right after reset has the values of the table; the stored temperatures are the configured
ones because a well-formed configuration has them within 16 bits (R15, R441). -/
theorem hasResetValues_resetWith {c : Config} (hc : c.wf = true) :
    HasResetValues c (State.resetWith c) := by
  obtain ⟨hindoor, houtdoor, hfeed⟩ := radParams_temps (wf_rad hc)
  obtain ⟨hinlet, houtlet⟩ := boilParams_temps (wf_boil hc)
  exact
    { cfg := rfl
      res := rfl
      status := by simp [statusWord, State.resetWith, flagAt, bitWord, faultCodeBits]
      addrIn := rfl
      addrOut := rfl
      visited := rfl
      errCode := rfl
      exhausted := rfl
      errBytePos := rfl
      errBitMask := rfl
      crcAcc := rfl
      regulators := fun u => by cases u <;> exact ⟨rfl, rfl, rfl, rfl, rfl, rfl⟩
      frames := fun u => by cases u <;> exact ⟨rfl, rfl, rfl, rfl, rfl⟩
      current0 := toInt_toHalf_of_isTemp hfeed
      feed := toInt_toHalf_of_isTemp hfeed
      indoor := toInt_toHalf_of_isTemp hindoor
      outdoor := toInt_toHalf_of_isTemp houtdoor
      freshFeed := rfl
      current1 := toInt_toHalf_of_isTemp hinlet
      inlet := toInt_toHalf_of_isTemp hinlet
      outlet := toInt_toHalf_of_isTemp houtlet
      flue := ⟨rfl, rfl⟩
      avg := ⟨rfl, rfl⟩
      boilerFlags := ⟨rfl, rfl, rfl, rfl⟩
      act := rfl
      port := rfl }

/-- A reset leaves the values of the table whatever was in progress: it keeps the configuration and the
world's share only (R440, R441). -/
theorem hasResetValues_resetBlock {s : State} (hwf : s.cfg.wf = true) :
    HasResetValues s.cfg (resetBlock s) := by
  have h := hasResetValues_resetWith hwf
  rw [resetBlock_eq]
  exact { h with }

/-- Settles O15, by the table of `hasResetValues_resetWith` and the well-formedness of D50. -/
theorem resetLeavesTheTableOfResetValues : Obligations.ResetLeavesTheTableOfResetValues :=
  ⟨fun _ hc => hasResetValues_resetWith hc, by decide, rfl⟩

/-! ### The step that takes a reset -/

/-- A reset that stands first is taken at once, by the SLICE in progress or by the idle block (R440). -/
theorem step_reset {s : State} {rest : List Input} (hwf : s.cfg.wf = true)
    (hin : s.inputs = .reset :: rest) : step s = .next (resetBlock { s with inputs := rest }) := by
  rw [step_eq_of_wf s hwf]
  cases hs : s.slice with
  | none => simp [takeInput, hin, hs]
  | some p => simp [continueSlice, hin, hs]

/-- Settles O16: the step is `resetBlock`, which leaves the table and keeps the world's share. -/
theorem resetInputRestoresEveryRegister : Obligations.ResetInputRestoresEveryRegister :=
  fun s rest hwf hin =>
    ⟨_, step_reset hwf hin, hasResetValues_resetBlock (s := { s with inputs := rest }) hwf,
      rfl, rfl, rfl, rfl, rfl, rfl, rfl⟩

/-! ### The invariant right after reset -/

/-- Settles O58, by the invariant of the reset values, and D50 as one configuration. -/
theorem resetMeetsTheInvariant : Obligations.ResetMeetsTheInvariant :=
  ⟨fun _ hc => inv_resetWith hc, inv_resetWith (c := Config.d50) (by decide)⟩

end Sys2Proof.Proofs
end

section
/-! PROOFS. The bus traffic of a search call (R222, R471): how many slots of each kind each part of it adds
to the record, whatever the transport answers. -/

namespace Sys2Proof.Proofs

open Sys2Proof.Machine Sys2Proof.Safety

/-! ### Bounded lists of slots -/

/-- The events are all bus slots, and at most so many of each kind. -/
structure SlotsWithin (resets reads writes : Nat) (slots : List Event) : Prop where
  resets_le : busResets slots ≤ resets
  reads_le : busReads slots ≤ reads
  writes_le : busWrites slots ≤ writes
  length_eq : slots.length = busResets slots + busReads slots + busWrites slots

theorem busResets_append (l l' : List Event) : busResets (l ++ l') = busResets l + busResets l' :=
  List.countP_append

theorem busReads_append (l l' : List Event) : busReads (l ++ l') = busReads l + busReads l' :=
  List.countP_append

theorem busWrites_append (l l' : List Event) : busWrites (l ++ l') = busWrites l + busWrites l' :=
  List.countP_append

theorem SlotsWithin.append {a b c a' b' c' : Nat} {l l' : List Event} (h : SlotsWithin a b c l)
    (h' : SlotsWithin a' b' c' l') : SlotsWithin (a + a') (b + b') (c + c') (l ++ l') where
  resets_le := busResets_append l l' ▸ Nat.add_le_add h.resets_le h'.resets_le
  reads_le := busReads_append l l' ▸ Nat.add_le_add h.reads_le h'.reads_le
  writes_le := busWrites_append l l' ▸ Nat.add_le_add h.writes_le h'.writes_le
  length_eq := by
    rw [List.length_append, h.length_eq, h'.length_eq, busResets_append, busReads_append,
      busWrites_append]
    omega

/-! ### What a part of a call adds to the record -/

/-- From `s` to `t` the record grows by bus slots only, at most so many of each kind (R471). -/
def AddsSlots (resets reads writes : Nat) (s t : State) : Prop :=
  ∃ slots, t.trace = slots ++ s.trace ∧ SlotsWithin resets reads writes slots

theorem addsSlots_refl (s : State) : AddsSlots 0 0 0 s s :=
  ⟨[], rfl, ⟨Nat.le_refl _, Nat.le_refl _, Nat.le_refl _, rfl⟩⟩

theorem AddsSlots.congr {a b c : Nat} {s t r : State} (h : AddsSlots a b c s t)
    (hr : r.trace = t.trace) : AddsSlots a b c s r := by
  obtain ⟨slots, htrace, hslots⟩ := h
  exact ⟨slots, hr.trans htrace, hslots⟩

theorem AddsSlots.trans {a b c a' b' c' : Nat} {s t r : State} (h : AddsSlots a b c s t)
    (h' : AddsSlots a' b' c' t r) : AddsSlots (a + a') (b + b') (c + c') s r := by
  obtain ⟨slots, htrace, hslots⟩ := h
  obtain ⟨slots', htrace', hslots'⟩ := h'
  refine ⟨slots' ++ slots, by rw [htrace', htrace, List.append_assoc], ?_⟩
  rw [Nat.add_comm a, Nat.add_comm b, Nat.add_comm c]
  exact hslots'.append hslots

theorem AddsSlots.mono {a b c a' b' c' : Nat} {s t : State} (h : AddsSlots a b c s t) (ha : a ≤ a')
    (hb : b ≤ b') (hc : c ≤ c') : AddsSlots a' b' c' s t := by
  obtain ⟨slots, htrace, hslots⟩ := h
  exact ⟨slots, htrace, { hslots with
    resets_le := hslots.resets_le.trans ha
    reads_le := hslots.reads_le.trans hb
    writes_le := hslots.writes_le.trans hc }⟩

/-! ### The primitives of R19 -/

theorem addsSlots_busReset (s : State) : AddsSlots 1 0 0 s s.busReset.2 :=
  ⟨[.busReset s.busReset.1], rfl, ⟨Nat.le_refl _, Nat.le_refl _, Nat.le_refl _, rfl⟩⟩

theorem addsSlots_busReadBit (s : State) : AddsSlots 0 1 0 s s.busReadBit.2 :=
  ⟨[.busRead s.busReadBit.1], rfl, ⟨Nat.le_refl _, Nat.le_refl _, Nat.le_refl _, rfl⟩⟩

theorem addsSlots_busWriteBit (s : State) (d : Bool) : AddsSlots 0 0 1 s (s.busWriteBit d) :=
  ⟨[.busWrite d], rfl, ⟨Nat.le_refl _, Nat.le_refl _, Nat.le_refl _, rfl⟩⟩

theorem addsSlots_busWriteByte (s : State) (v : Byte) : AddsSlots 0 0 8 s (s.busWriteByte v) := by
  rw [busWriteByte_eq]
  exact ⟨_, rfl, ⟨Nat.le_refl _, Nat.le_refl _, Nat.le_refl _, rfl⟩⟩

/-! ### A call -/

/-- Two read slots at each position of the walk, and a write slot where it goes on (R225). -/
theorem addsSlots_walk (n p k : Nat) (last0 : Option Nat) (s : State) :
    AddsSlots 0 (2 * n) n s (walk n p k last0 s).2 := by
  induction n generalizing p k last0 s with
  | zero => exact addsSlots_refl s
  | succ n ih =>
    have hsampled : AddsSlots 0 2 0 s s.busReadBit.2.busReadBit.2 :=
      (addsSlots_busReadBit s).trans (addsSlots_busReadBit _)
    have hconflict : AddsSlots 0 (2 * (n + 1)) (n + 1) s s.busReadBit.2.busReadBit.2 :=
      hsampled.mono (Nat.le_refl _) (by omega) (by omega)
    have hchosen (d : Bool) (k' : Nat) (l' : Option Nat) : AddsSlots 0 (2 * (n + 1)) (n + 1) s
        (walk n (p + 1) k' l' (chooseBit p d s.busReadBit.2.busReadBit.2)).2 := by
      have hwritten : AddsSlots 0 0 1 _ (chooseBit p d s.busReadBit.2.busReadBit.2) :=
        addsSlots_busWriteBit _ d
      exact ((hsampled.trans hwritten).trans (ih (p + 1) k' l' _)).mono (by omega) (by omega) (by omega)
    simp only [walk]
    split
    · exact hconflict
    · split
      · split
        · exact hconflict
        · split <;> exact hchosen _ _ _
      · exact hchosen _ _ _

/-- The command byte and the 64 positions; how the call ends adds no slot (R224, R225). -/
theorem addsSlots_searchWalk (s : State) : AddsSlots 0 128 72 s (searchWalk s) := by
  have hwalk : AddsSlots 0 128 72 s (commandedWalk s).2 :=
    (addsSlots_busWriteByte s s.cfg.searchRomCmd).trans (addsSlots_walk 64 0 0 none _)
  rcases searchWalk_cases s with ⟨code, p, -, h⟩ | ⟨last0, -, h⟩ <;> rw [h]
  · exact hwalk.congr rfl
  · rcases finishWalk_cases last0 (commandedWalk s).2 with ⟨-, hend⟩ | ⟨-, hend⟩ <;> rw [hend] <;>
      exact hwalk.congr rfl

/-- One bus reset, then the walk when a device answered it (R224). -/
theorem addsSlots_searchLive (s : State) : AddsSlots 1 128 72 s (searchLive s) := by
  have hreset : AddsSlots 1 0 0 s (State.busReset { s with addrOut := 0#64 }).2 :=
    addsSlots_busReset { s with addrOut := 0#64 }
  rw [searchLive_eq]
  split
  · exact hreset.trans (addsSlots_searchWalk _)
  · exact (hreset.congr rfl).mono (Nat.le_refl _) (Nat.zero_le _) (Nat.zero_le _)

/-- A call on a dead session adds no slot; one on a live session at most those of the walk (R223, R471). -/
theorem addsSlots_searchNext (s : State) : AddsSlots 1 128 72 s (searchNext s) := by
  unfold searchNext
  split
  · exact addsSlots_searchLive s
  · exact ((addsSlots_refl s).congr rfl).mono (Nat.zero_le _) (Nat.zero_le _) (Nat.zero_le _)

/-- Settles O34, by the frame of a search call and the slots its parts add. -/
theorem srchNextMakesBoundedBusTraffic : Obligations.SrchNextMakesBoundedBusTraffic := by
  intro s
  obtain ⟨slots, htrace, hslots⟩ := addsSlots_searchNext s
  refine ⟨searchNext s, slots, exec_eq_after .srchNext s, ?_, hslots.resets_le, hslots.reads_le,
    hslots.writes_le, hslots.length_eq⟩
  rw [← htrace]
  exact (searchFrame_searchNext s).eq

end Sys2Proof.Proofs
end

section
/-! PROOFS. A SLICE whose counter stands still (R471): each reading is recorded and nothing else happens. -/

namespace Sys2Proof.Proofs

open Sys2Proof.Machine Sys2Proof.Safety

/-- The state `n` readings of a counter that stands still lead to, with the inputs `rest` to come: only the
count of readings and the record have grown (R366, R471). -/
def afterIdleReadings (s : State) (n : Nat) (rest : List Input) : State :=
  { s with
    inputs := rest, clockReads := s.clockReads + n,
    trace := List.replicate n (.clockRead s.clock) ++ s.trace }

theorem afterIdleReadings_afterIdleReadings (s : State) (m n : Nat) (l rest : List Input) :
    afterIdleReadings (afterIdleReadings s m l) n rest = afterIdleReadings s (n + m) rest := by
  simp only [afterIdleReadings, List.replicate_add, List.append_assoc, Nat.add_assoc, Nat.add_comm m]

section

variable {p : SliceProgress}
  (hwait : (p.last - p.t0).toNat < (if p.firstStopped then p.tSecond else p.tFirst).toNat)

include hwait

/-- A reading that shows the counter where the last one did leaves a waiting SLICE as it is (R366). -/
theorem step_of_stopped_clock {s : State} {rest : List Input} (hwf : s.cfg.wf = true)
    (hp : s.slice = some p) (hlast : p.last = s.clock) (hin : s.inputs = .ticks 0 :: rest) :
    step s = .next (afterIdleReadings s 1 rest) := by
  have hread : readingTaken s p 0 rest = afterIdleReadings s 1 rest := by
    have hslice : some { p with last := s.clock } = s.slice := by rw [← hlast, hp]
    rw [readingTaken, BitVec.add_zero, hslice]
    rfl
  rw [step_of_readingAdvances hwf hp (.inl hin), hread]
  exact congrArg _ (sliceSettle_of_waiting hp hwait)

/-- So do any number of such readings (R471). -/
theorem run_of_stopped_clock (n : Nat) {s : State} {rest : List Input} (hwf : s.cfg.wf = true)
    (hp : s.slice = some p) (hlast : p.last = s.clock)
    (hin : s.inputs = List.replicate n (.ticks 0) ++ rest) :
    Host.Core.run Sys2Proof.core n s = .next (afterIdleReadings s n rest) := by
  induction n generalizing s with
  | zero =>
    obtain rfl : s.inputs = rest := hin
    rfl
  | succ n ih =>
    have hnext : s.inputs = .ticks 0 :: (List.replicate n (.ticks 0) ++ rest) := hin
    have hstep := step_of_stopped_clock hwait hwf hp hlast hnext
    have hrun := ih (s := afterIdleReadings s 1 _) hwf hp hlast rfl
    rw [afterIdleReadings_afterIdleReadings] at hrun
    exact (run_succ_of_step hstep n).trans hrun

end

/-- Settles O53: a SLICE in progress waits, and with the counter stopped it stays where it waits. -/
theorem stoppedClockKeepsSliceWaiting : Obligations.StoppedClockKeepsSliceWaiting := by
  intro s p n rest hwf hagrees hp hlast hin
  simp only [SliceAgrees, hp] at hagrees
  obtain ⟨-, -, -, -, hwait, -⟩ := hagrees
  exact ⟨_, run_of_stopped_clock hwait n hwf hp hlast hin, hp, rfl, rfl, rfl, rfl⟩

end Sys2Proof.Proofs
end
